-- ==== Sys2Proof/Word.lean ====
section
/-! DEFINITION. The word types of the QRENC core and their plainest arithmetic.

Bytes are the codec's elements (00_scope.md R8), words the bus data and the
registers (10_state.md R31), offsets the 18-bit byte offsets of the core's
window (20_memory.md R100). Nothing in this hardware sign-extends
(00_scope.md R10). -/

namespace Sys2Proof

/-- An 8-bit element: a field element, a buffer byte, a codeword. -/
abbrev Byte := BitVec 8

/-- A 32-bit register or bus word. -/
abbrev Word := BitVec 32

/-- An 18-bit byte offset into the core's window (R100). -/
abbrev Offset := BitVec 18

/-- The distance `|a - b|` of two naturals. -/
def natDist (a b : Nat) : Nat := (a - b) + (b - a)

end Sys2Proof
end

