-- ==== Sys2Proof/Machine/Transactions.lean ====
section
/-! DEFINITION. What crosses the core's bus slave port and its pins
(20_memory.md R100): the host's accesses, the reset input, and the answers. -/

namespace Sys2Proof.Machine

/-- The access sizes of the bus: 1, 2 and 4 bytes (R100). -/
inductive AccessSize where
  | one
  | two
  | four
  deriving DecidableEq, Repr

/-- The number of bytes of an access (R100). -/
def AccessSize.bytes : AccessSize → Nat
  | .one => 1
  | .two => 2
  | .four => 4

/-- One bus transaction (R100). A write carries its `8·size` data bits in the
low end of a word. -/
inductive BusAccess where
  | read (addr : Offset) (size : AccessSize)
  | write (addr : Offset) (size : AccessSize) (wdata : Word)
  deriving DecidableEq, Repr

/-- What the outside world does in one clock cycle: a bus access (R100),
nothing, or a change of the reset input rst_n (R451). -/
inductive HostEvent where
  | access (a : BusAccess)
  | idle
  | rstN (level : Bool)
  deriving DecidableEq, Repr

/-- The response code of an access (R100). -/
inductive RespCode where
  | okay
  | error
  deriving DecidableEq, Repr

/-- The core's answer to one access (R100): a code and, for a read, its data,
zero-extended to a word. -/
inductive Response where
  | read (code : RespCode) (rdata : Word)
  | write (code : RespCode)
  deriving DecidableEq, Repr

end Sys2Proof.Machine
end

