-- ==== Sys2Proof/Config.lean ====
section
/-! DEFINITION. What one implementation fixes (00_scope.md R7), and the free
values: constants without a body, one for every value the spec leaves open, so
that no proof can learn anything about them. -/

namespace Sys2Proof

/-- One row of the block-structure table (10_state.md R42): the EC bytes per
block, and count and data bytes per block of the two groups. -/
structure BlockEntry where
  ec : Nat
  count1 : Nat
  data1 : Nat
  count2 : Nat
  data2 : Nat
  deriving DecidableEq, Repr, Inhabited

namespace Config

/-- ID_VALUE (R7, R31, decision D36). -/
def idValue : Word := 0x51524337

/-- PAYLOAD_BUF, the size of the payload buffer in bytes (R7, decision D8). -/
def payloadBuf : Nat := 8192

/-- RS_K_MAX, the largest byte count K of an RS command (R7, decision D9). -/
def rsKMax : Nat := 256

/-- RS_N_MAX, the largest EC count N of an RS command (R7, decision D9). -/
def rsNMax : Nat := 32

/-- MATRIX_STRIDE, the row stride of the matrix window (R7, decision D25). -/
def matrixStride : Nat := 256

/-- FREE VALUE (93 U3; R105, R450): what a read of a buffer byte that nothing
has written since the last hardware reset returns, at the `draw`-th read. See
log entry 2. -/
opaque freeByte : (draw addr : Nat) → Byte

/-- FREE VALUE (93 U2; R110): what a read returns whose data the spec leaves
unspecified, at the `draw`-th read of offset `addr`. See log entries 3 and 4. -/
opaque freeWord : (draw addr : Nat) → Word

/-- FREE VALUE (93 U1; R41): the LOG ROM entry for 0, which no rule reads. See log
entry 22. -/
opaque logZero : Byte

/-- FREE VALUE: the digit value of a byte below 0x30, for which R263's
`b - 0x30` gives no unsigned number. See log entry 6. -/
opaque freeDigit : Byte → Nat

/-- FREE VALUE: the ALNUM value of a byte outside the 45 characters of R47. See
log entry 6. -/
opaque freeAlnum : Byte → Nat

/-- FREE VALUE: the BLOCK ROM row of a version outside 1..40 (R42 lists none).
See log entry 7. -/
opaque freeBlock : (version : Nat) → (ecl : BitVec 2) → BlockEntry

/-- FREE VALUE: the ALIGN ROM row of a version outside 1..40 (R43 lists none).
See log entry 7. -/
opaque freeAlign : (version : Nat) → List Nat

/-- FREE VALUE: the REM ROM entry of a version outside 1..40 (R44 lists none).
See log entry 7. -/
opaque freeRem : (version : Nat) → Nat

/-- FREE VALUE: the CCW ROM entry, for a mode indicator, of a version outside 1..40
(R45 lists none). See log entry 7. -/
opaque freeCcw : (indicator : BitVec 4) → (version : Nat) → Nat

/-- MASK_LANES (R7, 93 U13) less one: how many mask candidates are scored at a
time. OPEN, 1..8, and unobservable (R352). See log entry 18. -/
opaque maskLanesLessOne : Fin 8

/-- MASK_LANES (R7, 93 U13), a number in 1..8. -/
def maskLanes : Nat := maskLanesLessOne.val + 1

/-- GEN_CACHE (R7, 93 U14): how many generator polynomials the cache can keep.
OPEN and unobservable (R60). -/
opaque genCacheSize : Nat

end Config
end Sys2Proof
end

