-- ==== Sys2Proof/Syntax.lean ====
section
/-! DEFINITION. The commands of the QRENC core: one constructor per row of the
opcode map (30_encoding.md R142), and the raw command word (R141). A command
carries no operand: every operand is taken from a register or a buffer (R143). -/

namespace Sys2Proof

/-- The 22 commands of R142. -/
inductive Instr where
  | nop
  | gfAdd
  | gfMul
  | gfDiv
  | gfPow
  | gfExp
  | gfLog
  | rsGenpoly
  | rsEncode
  | rsRemainder
  | rsSyndrome
  | bchFormat
  | bchVersion
  | classify
  | analyze
  | encodeData
  | interleave
  | mxGeometry
  | mxPlace
  | mxMask
  | mxChecksum
  | encodeQr
  deriving DecidableEq, Repr

/-- The fields of the one 32-bit command format (R141). -/
structure CommandWord where
  opcode : BitVec 8
  rsvd : BitVec 24
  deriving DecidableEq, Repr

/-- The fields of a word written to CMD (R141): OPCODE in [7:0], RSVD in [31:8]. -/
def CommandWord.ofWord (w : Word) : CommandWord :=
  { opcode := w.extractLsb' 0 8, rsvd := w.extractLsb' 8 24 }

/-- The 32-bit word that holds the two fields of R141. -/
def CommandWord.toWord (c : CommandWord) : Word := c.rsvd ++ c.opcode

end Sys2Proof
end

