-- ==== Sys2Proof/WellFormed.lean ====
section
/-! DEFINITION. When a raw command word is a valid command (30_encoding.md
R141, R144), and when a bus access is one the port can carry (20_memory.md
R100). -/

namespace Sys2Proof

/-- The opcodes assigned by R142. Every other value is reserved (R144). -/
def assignedOpcodes : List (BitVec 8) :=
  [0x00, 0x01, 0x02, 0x03, 0x04, 0x05, 0x06,
   0x10, 0x11, 0x12, 0x13,
   0x20, 0x21,
   0x30, 0x31, 0x38, 0x39,
   0x40, 0x41, 0x42, 0x43, 0x4F]

/-- R141: bits [31:8] must be 0. -/
def CommandWord.rsvdClear (c : CommandWord) : Bool := c.rsvd == 0

/-- R144: the opcode is one of R142. -/
def CommandWord.opcodeAssigned (c : CommandWord) : Bool :=
  assignedOpcodes.contains c.opcode

/-- A valid command word (R141, R144). -/
def CommandWord.wf (c : CommandWord) : Bool := c.rsvdClear && c.opcodeAssigned

/-- R100: the write data of an access has `8·size` bits. -/
def Machine.BusAccess.wf : Machine.BusAccess → Bool
  | .read _ _ => true
  | .write _ size wdata => wdata.toNat < 2 ^ (8 * size.bytes)

end Sys2Proof
end

