-- ==== Sys2Proof/Decode.lean ====
section
/-! DEFINITION. The command decoder, total on every word (30_encoding.md R141,
R142, R144, R145), and the encoder written from the same opcode map. -/

namespace Sys2Proof

/-- The opcode map of R142, read from opcode to command. -/
def decodeOpcode (op : BitVec 8) : Option Instr :=
  match op.toNat with
  | 0x00 => some .nop
  | 0x01 => some .gfAdd
  | 0x02 => some .gfMul
  | 0x03 => some .gfDiv
  | 0x04 => some .gfPow
  | 0x05 => some .gfExp
  | 0x06 => some .gfLog
  | 0x10 => some .rsGenpoly
  | 0x11 => some .rsEncode
  | 0x12 => some .rsRemainder
  | 0x13 => some .rsSyndrome
  | 0x20 => some .bchFormat
  | 0x21 => some .bchVersion
  | 0x30 => some .classify
  | 0x31 => some .analyze
  | 0x38 => some .encodeData
  | 0x39 => some .interleave
  | 0x40 => some .mxGeometry
  | 0x41 => some .mxPlace
  | 0x42 => some .mxMask
  | 0x43 => some .mxChecksum
  | 0x4F => some .encodeQr
  | _ => none

/-- The decoder (R145: it needs only the 32-bit word). A word with RSVD ≠ 0 or
an unassigned opcode is no command (R141, R144). -/
def decode (w : Word) : Option Instr :=
  if (CommandWord.ofWord w).wf then decodeOpcode (CommandWord.ofWord w).opcode else none

/-- The word of four bytes as the bus carries them: little-endian
(20_memory.md R101). -/
def wordOfBytes (b0 b1 b2 b3 : Byte) : Word := b3 ++ b2 ++ b1 ++ b0

/-- The decoder on any bytes: a command is exactly four of them (R145), and the
rest of the list is handed back. -/
def decodeBytes : List Byte → Option (Instr × List Byte)
  | b0 :: b1 :: b2 :: b3 :: rest => (decode (wordOfBytes b0 b1 b2 b3)).map (fun i => (i, rest))
  | _ => none

/-- The opcode of a command (R142). -/
def opcode : Instr → BitVec 8
  | .nop => 0x00
  | .gfAdd => 0x01
  | .gfMul => 0x02
  | .gfDiv => 0x03
  | .gfPow => 0x04
  | .gfExp => 0x05
  | .gfLog => 0x06
  | .rsGenpoly => 0x10
  | .rsEncode => 0x11
  | .rsRemainder => 0x12
  | .rsSyndrome => 0x13
  | .bchFormat => 0x20
  | .bchVersion => 0x21
  | .classify => 0x30
  | .analyze => 0x31
  | .encodeData => 0x38
  | .interleave => 0x39
  | .mxGeometry => 0x40
  | .mxPlace => 0x41
  | .mxMask => 0x42
  | .mxChecksum => 0x43
  | .encodeQr => 0x4F

/-- The encoder: the word of a command (R141, R142). -/
def encode (i : Instr) : Word := CommandWord.toWord { opcode := opcode i, rsvd := 0 }

/-- The four bytes of a command word in bus order (R101). -/
def encodeBytes (i : Instr) : List Byte :=
  [(encode i).extractLsb' 0 8, (encode i).extractLsb' 8 8,
   (encode i).extractLsb' 16 8, (encode i).extractLsb' 24 8]

/-- The word that an opcode-table number stands for: `nbits` of its bits, every
higher bit 0. -/
def tableWord (nbits w : Nat) : Word := BitVec.ofNat 32 (w % 2 ^ nbits)

/-- What the decoder reads from an instruction numbered as the opcode table
numbers it: its bytes are laid out lowest first, as the bus stores them. -/
def decodeTableWord (nbits w : Nat) : Option Instr :=
  (decodeBytes
    [(tableWord nbits w).extractLsb' 0 8, (tableWord nbits w).extractLsb' 8 8,
     (tableWord nbits w).extractLsb' 16 8, (tableWord nbits w).extractLsb' 24 8]).map Prod.fst

end Sys2Proof
end

