-- ==== Sys2Proof/Machine/State.lean ====
section
/-! DEFINITION. The state of the QRENC core: every register, buffer and hidden
register of 10_state.md (R30), as plain data, and the state after a hardware
reset (70_reset_and_hazards.md R450). A register is held as its named fields;
its reserved bits are not state, since they always read 0 (R31). -/

namespace Sys2Proof.Machine

/-- STATUS.ERRCODE values (60_exceptions.md R412). Codes 8..15 are never
reported (93 U8). -/
inductive ErrCode where
  | none
  | payloadTooLarge
  | divideByZero
  | illegalOpcode
  | illegalConfig
  | phaseOrder
  | domain
  | badLength
  deriving DecidableEq, Repr

/-- STATUS.STAGE values (10_state.md R54). Values 8..15 are never held. -/
inductive Stage where
  | idle
  | analyzed
  | encoded
  | interleaved
  | geometry
  | placed
  | masked
  | checksummed
  deriving DecidableEq, Repr

/-- The position of a stage in the pipeline, its value in R54. -/
def Stage.toNat : Stage → Nat
  | .idle => 0
  | .analyzed => 1
  | .encoded => 2
  | .interleaved => 3
  | .geometry => 4
  | .placed => 5
  | .masked => 6
  | .checksummed => 7

/-- STATUS (R31, R34). -/
structure Status where
  busy : Bool
  done : Bool
  err : Bool
  errSticky : Bool
  errCode : ErrCode
  stage : Stage
  deriving DecidableEq, Repr

/-- ERRINFO (R31, R36). -/
structure ErrInfo where
  opcode : BitVec 8
  ecl : BitVec 2
  band : BitVec 2
  stage : Stage
  deriving DecidableEq, Repr

/-- CONFIG (R31, R37). -/
structure CfgReg where
  ecl : BitVec 2
  band : BitVec 2
  minver : BitVec 6
  deriving DecidableEq, Repr

/-- RS_CFG (R31, 42_rs.md R200). -/
structure RsCfgReg where
  k : BitVec 9
  n : BitVec 8
  deriving DecidableEq, Repr

/-- AR_MODE (R31). -/
structure ArModeReg where
  mode : BitVec 4
  eci : Bool
  deriving DecidableEq, Repr

/-- AR_VERSION (R31). -/
structure ArVersionReg where
  version : BitVec 6
  side : BitVec 8
  deriving DecidableEq, Repr

/-- BLK_G1 (R31). -/
structure BlkG1Reg where
  count : BitVec 8
  data : BitVec 8
  ec : BitVec 8
  deriving DecidableEq, Repr

/-- BLK_G2 (R31). -/
structure BlkG2Reg where
  count : BitVec 8
  data : BitVec 8
  deriving DecidableEq, Repr

/-- One entry of the generator-polynomial cache: a degree and the polynomial
kept for it (R60). -/
structure GenEntry where
  degree : Nat
  poly : List Byte
  deriving DecidableEq, Repr

/-- Memory by bus offset: the buffers (R50) and the matrix slots (R53), as
(offset, byte) pairs with rising offsets. What an offset without a pair reads
as is `Memory.unlisted` of Machine/Ops.lean. -/
abbrev Memory := List Host.Cell

/-- The state of the core and of its port. -/
structure State where
  /-- CTRL.IE (R32). -/
  ctrlIE : Bool
  /-- CMD (R33). -/
  cmd : Word
  /-- STATUS (R34). -/
  status : Status
  /-- ERRINFO (R36). -/
  errInfo : ErrInfo
  /-- CONFIG (R37). -/
  config : CfgReg
  /-- PAYLOAD_LEN.LEN (R38). -/
  payloadLen : BitVec 16
  /-- OPA (R39). -/
  opa : Word
  /-- OPB (R39). -/
  opb : Word
  /-- RESULT (R39). -/
  result : Word
  /-- RS_CFG (R39). -/
  rsCfg : RsCfgReg
  /-- AR_MODE (R49, R51). -/
  arMode : ArModeReg
  /-- AR_COUNT (R51). -/
  arCount : BitVec 16
  /-- AR_PBITS (R51). -/
  arPbits : BitVec 17
  /-- AR_VERSION (R51). -/
  arVersion : ArVersionReg
  /-- AR_REQBITS (R51). -/
  arReqbits : BitVec 18
  /-- CAP_BITS (R51). -/
  capBits : BitVec 16
  /-- DCW_LEN (R51). -/
  dcwLen : BitVec 12
  /-- FINAL_LEN (R51). -/
  finalLen : BitVec 12
  /-- STREAM_BITS (R51). -/
  streamBits : BitVec 16
  /-- BLK_G1 (R51). -/
  blkG1 : BlkG1Reg
  /-- BLK_G2 (R51). -/
  blkG2 : BlkG2Reg
  /-- MASK_SEL (R51). -/
  maskSel : BitVec 3
  /-- FORMAT_BITS (R51). -/
  formatBits : BitVec 15
  /-- VERSION_BITS (R51). -/
  versionBits : BitVec 18
  /-- PLACED_BITS (R51). -/
  placedBits : BitVec 16
  /-- PENALTY[k] (R51, R52). -/
  penalty : Vector Word 8
  /-- PEN_RULE[k][j] (R51). -/
  penRule : Vector (Vector Word 4) 8
  /-- The buffers and the matrix memory (R50, R53). -/
  mem : Memory
  /-- The hidden matrix side register MXN (R53). -/
  mxn : Nat
  /-- The generator-polynomial cache (R60). -/
  genCache : List GenEntry
  /-- The level of the reset input rst_n (R451). -/
  rstN : Bool
  /-- MODEL'S OWN (log entry 1): clock cycles the command in progress still
  leaves to the host before it completes. -/
  wait : Nat
  /-- MODEL'S OWN (log entry 1): LATENCY (R7), less one, of the commands still
  to be issued; a command beyond the list takes one cycle. -/
  latencies : List Nat
  /-- MODEL'S OWN (log entry 1): what the host does in the coming cycles, first
  one first. -/
  inbox : List HostEvent
  /-- MODEL'S OWN (log entry 1): the answers the core has given, newest first. -/
  outbox : List Response
  /-- MODEL'S OWN (log entry 2): how many reads have drawn from the free
  values. -/
  draws : Nat
  deriving DecidableEq, Repr

/-- Why the machine would stop. It has no constructor: no behaviour of this
hardware is stuck (93_implementation_defined.md, after U19), every command
completes (R410) and every access is answered (R100). Nobody raises a fault,
which is safe. -/
inductive Fault
  deriving DecidableEq, Repr

/-- Why an instruction would have no meaning. -/
inductive Refusal where
  /-- Raised only by an arm of `exec` whose instruction has no meaning yet
  (none in this model). Safe: the machine stops. -/
  | notModelled (mnemonic : String)
  deriving DecidableEq, Repr

/-- The machine right after a hardware reset (R450), rst_n high again, with no
host event waiting. Every register value is the spec's. The fields marked
MODEL'S OWN have DESIGN CHOICE values (log entries 1 and 2). -/
def State.reset : State where
  ctrlIE := false
  cmd := 0
  status := { busy := false, done := false, err := false, errSticky := false,
              errCode := .none, stage := .idle }
  errInfo := { opcode := 0, ecl := 0, band := 0, stage := .idle }
  config := { ecl := 0, band := 0, minver := 0 }
  payloadLen := 0
  opa := 0
  opb := 0
  result := 0
  rsCfg := { k := 0, n := 0 }
  arMode := { mode := 0, eci := false }
  arCount := 0
  arPbits := 0
  arVersion := { version := 0, side := 0 }
  arReqbits := 0
  capBits := 0
  dcwLen := 0
  finalLen := 0
  streamBits := 0
  blkG1 := { count := 0, data := 0, ec := 0 }
  blkG2 := { count := 0, data := 0 }
  maskSel := 0
  formatBits := 0
  versionBits := 0
  placedBits := 0
  penalty := Vector.replicate 8 0
  penRule := Vector.replicate 8 (Vector.replicate 4 0)
  mem := []
  mxn := 0
  genCache := []
  rstN := true
  wait := 0
  latencies := []
  inbox := []
  outbox := []
  draws := 0

end Sys2Proof.Machine
end

