-- ==== Sys2Proof/Machine/Flags.lean ====
section
/-! DEFINITION. The flags of the core (10_state.md R62): the STATUS bits, how
commands and host writes change them (R34), the interrupt output
(60_exceptions.md R420), and the register words that hold flags and codes. -/

namespace Sys2Proof.Machine

/-- A one-bit flag as a bit. -/
def flagBit (b : Bool) : BitVec 1 := BitVec.ofBool b

/-- The value of an error code in STATUS[11:8] (R412). -/
def ErrCode.toNat : ErrCode → Nat
  | .none => 0
  | .payloadTooLarge => 1
  | .divideByZero => 2
  | .illegalOpcode => 3
  | .illegalConfig => 4
  | .phaseOrder => 5
  | .domain => 6
  | .badLength => 7

/-- STATUS as the host reads it (R31): BUSY [0], DONE [1], ERR [2],
ERRSTICKY [3], ERRCODE [11:8], STAGE [19:16]. -/
def Status.word (s : Status) : Word :=
  (0 : BitVec 12) ++ BitVec.ofNat 4 s.stage.toNat ++ (0 : BitVec 4) ++
    BitVec.ofNat 4 s.errCode.toNat ++ (0 : BitVec 4) ++
    flagBit s.errSticky ++ flagBit s.err ++ flagBit s.done ++ flagBit s.busy

/-- What the issue of a command does to STATUS first (R140): DONE, ERR and
ERRCODE are cleared. -/
def Status.clearForIssue (s : Status) : Status :=
  { s with done := false, err := false, errCode := .none }

/-- The issue of a valid command (R140, R410 step 1): BUSY is set as well. -/
def Status.issued (s : Status) : Status := { s.clearForIssue with busy := true }

/-- Successful completion (R410 step 3): BUSY falls, DONE rises. -/
def Status.completed (s : Status) : Status := { s with busy := false, done := true }

/-- Completion with error `e` (R410 step 3, R411). -/
def Status.failed (e : ErrCode) (s : Status) : Status :=
  { s.completed with err := true, errSticky := true, errCode := e }

/-- A host write of `w` to STATUS (R34): 1 clears DONE (bit 1) and ERRSTICKY
(bit 3), every other bit is ignored. -/
def Status.hostWrite (w : Word) (s : Status) : Status :=
  { s with done := s.done && !w.getLsbD 1, errSticky := s.errSticky && !w.getLsbD 3 }

/-- STATUS with STAGE moved (R54, R395). -/
def Status.withStage (g : Stage) (s : Status) : Status := { s with stage := g }

/-- The interrupt output (R420): `irq = CTRL.IE and STATUS.DONE`, and 0 while
rst_n is low (R451). -/
def State.irq (s : State) : Bool := s.rstN && s.ctrlIE && s.status.done

/-- The outcome that RS_REMAINDER and RS_SYNDROME write into RESULT[0] (R62,
R204, R205): 1 exactly when every byte is 0. -/
def allZeroFlag (bs : List Byte) : Word := if bs.all (· == 0) then 1 else 0

/-- ERRINFO as the host reads it (R31): OPCODE [7:0], ECL [9:8], BAND [11:10],
STAGE [23:20]. -/
def ErrInfo.word (e : ErrInfo) : Word :=
  (0 : BitVec 8) ++ BitVec.ofNat 4 e.stage.toNat ++ (0 : BitVec 8) ++ e.band ++ e.ecl ++ e.opcode

/-- CONFIG as the host reads it (R31): ECL [1:0], BAND [3:2], MINVER [9:4]. -/
def CfgReg.word (c : CfgReg) : Word := (0 : BitVec 22) ++ c.minver ++ c.band ++ c.ecl

/-- The fields of a word written to CONFIG; its other bits are ignored (R31). -/
def CfgReg.ofWord (w : Word) : CfgReg :=
  { ecl := w.extractLsb' 0 2, band := w.extractLsb' 2 2, minver := w.extractLsb' 4 6 }

/-- RS_CFG as the host reads it (R31): K [8:0], N [23:16]. -/
def RsCfgReg.word (c : RsCfgReg) : Word := (0 : BitVec 8) ++ c.n ++ (0 : BitVec 7) ++ c.k

/-- The fields of a word written to RS_CFG; its other bits are ignored (R31). -/
def RsCfgReg.ofWord (w : Word) : RsCfgReg :=
  { k := w.extractLsb' 0 9, n := w.extractLsb' 16 8 }

/-- AR_MODE as the host reads it (R31): MODE [3:0], ECI [4]. -/
def ArModeReg.word (m : ArModeReg) : Word := (0 : BitVec 27) ++ flagBit m.eci ++ m.mode

/-- AR_VERSION as the host reads it (R31): VERSION [5:0], SIDE [15:8]. -/
def ArVersionReg.word (v : ArVersionReg) : Word :=
  (0 : BitVec 16) ++ v.side ++ (0 : BitVec 2) ++ v.version

/-- BLK_G1 as the host reads it (R31): COUNT [7:0], DATA [15:8], EC [23:16]. -/
def BlkG1Reg.word (b : BlkG1Reg) : Word := (0 : BitVec 8) ++ b.ec ++ b.data ++ b.count

/-- BLK_G2 as the host reads it (R31): COUNT [7:0], DATA [15:8]. -/
def BlkG2Reg.word (b : BlkG2Reg) : Word := (0 : BitVec 16) ++ b.data ++ b.count

/-- CTRL as the host reads it (R32): IE [0]; SRST always reads 0. -/
def State.ctrlWord (s : State) : Word := (0 : BitVec 31) ++ flagBit s.ctrlIE

end Sys2Proof.Machine
end

