-- ==== Sys2Proof/Machine/Operands.lean ====
section
/-! DEFINITION. Where each command takes its operands (30_encoding.md R143):
every field is unsigned, and every bit a rule does not name is ignored
(10_state.md R39). -/

namespace Sys2Proof.Machine

/-- a = OPA[7:0] of the GF commands (R171-R174, R176). -/
def State.opA8 (s : State) : Byte := s.opa.extractLsb' 0 8

/-- b = OPB[7:0] of GF_ADD, GF_MUL, GF_DIV; e = OPB[7:0] of GF_POW (R171-R174). -/
def State.opB8 (s : State) : Byte := s.opb.extractLsb' 0 8

/-- i = OPA[8:0] of GF_EXP (R175). -/
def State.opA9 (s : State) : BitVec 9 := s.opa.extractLsb' 0 9

/-- ecl = OPA[1:0] of BCH_FORMAT (R361; log entry 10). -/
def State.opA2 (s : State) : BitVec 2 := s.opa.extractLsb' 0 2

/-- mask = OPB[2:0] of BCH_FORMAT (R361). -/
def State.opB3 (s : State) : BitVec 3 := s.opb.extractLsb' 0 3

/-- v = OPA[5:0] of BCH_VERSION (R363). -/
def State.opA6 (s : State) : BitVec 6 := s.opa.extractLsb' 0 6

/-- K = RS_CFG[8:0] (R200). -/
def State.rsK (s : State) : Nat := s.rsCfg.k.toNat

/-- N = RS_CFG[23:16] (R200). -/
def State.rsN (s : State) : Nat := s.rsCfg.n.toNat

/-- LEN = PAYLOAD_LEN.LEN (R38). -/
def State.len (s : State) : Nat := s.payloadLen.toNat

/-- v = AR_VERSION.VERSION (R49). -/
def State.version (s : State) : Nat := s.arVersion.version.toNat

/-- N = 4·v + 17, the side length for AR_VERSION (46_matrix.md, notation; for other
versions than 1..40 see log entry 19). -/
def sideOf (v : Nat) : Nat := 4 * v + 17

end Sys2Proof.Machine
end

