-- ==== Sys2Proof/Machine/Ops.lean ====
section
/-! DEFINITION. The named operations over memory, registers and the matrix, and
the completion of a command, with or without an error (60_exceptions.md R410,
R411), which is all this core has of exceptions (R416, R417). -/

namespace Sys2Proof.Machine

/-! ## Regions of the window -/

/-- The regions of the address map (20_memory.md R113). -/
inductive Region where
  | registers
  | rsdata
  | rsout
  | gen
  | payload
  | dcw
  | final
  | matrix
  deriving DecidableEq, Repr

/-- The first offset of a region (R113). -/
def Region.base : Region → Nat
  | .registers => 0x00000
  | .rsdata => 0x01000
  | .rsout => 0x01100
  | .gen => 0x01200
  | .payload => 0x02000
  | .dcw => 0x04000
  | .final => 0x05000
  | .matrix => 0x10000

/-- The size of a region in bytes (R113). -/
def Region.size : Region → Nat
  | .registers => 512
  | .rsdata => 256
  | .rsout => 32
  | .gen => 64
  | .payload => Config.payloadBuf
  | .dcw => 4096
  | .final => 4096
  | .matrix => 256 * Config.matrixStride

/-- The regions in the order of the address map. -/
def Region.all : List Region :=
  [.registers, .rsdata, .rsout, .gen, .payload, .dcw, .final, .matrix]

/-- Whether a region holds offset `a`. -/
def Region.holds (g : Region) (a : Nat) : Bool := g.base ≤ a && a < g.base + g.size

/-- The region of an offset; none for an unmapped one (R107, R113). -/
def regionOf (a : Nat) : Option Region := Region.all.find? (·.holds a)

/-! ## Memory -/

/-- What an offset without an entry reads as: 0 in the matrix window (R301,
R450) and in the unused GEN bytes 33..63 (R113); no value in a buffer byte that
nothing has written (R105, R450). -/
def Memory.unlisted (a : Nat) : Option Byte :=
  if Region.matrix.holds a then some 0
  else if Region.gen.base + 33 ≤ a && a < Region.gen.base + Region.gen.size then some 0
  else none

/-- The content of offset `a`; none for a byte that was never written. -/
def Memory.get? (m : Memory) (a : Nat) : Option Byte :=
  match m.find? (fun c => c.1 == a) with
  | some c => some c.2
  | none => Memory.unlisted a

/-- The canonical form: offsets strictly rising, and no entry equal to what an
unlisted offset reads as. -/
abbrev Memory.wf (m : Memory) : Prop :=
  m.Pairwise (fun c d => c.1 < d.1) ∧ ∀ c ∈ m, Memory.unlisted c.1 ≠ some c.2

/-- The entries that `bytes`, stored from offset `base` on, leave in memory. -/
def Memory.entries (base : Nat) : List Byte → Memory
  | [] => []
  | b :: bs =>
    if Memory.unlisted base = some b then Memory.entries (base + 1) bs
    else (base, b) :: Memory.entries (base + 1) bs

/-- Stores `bytes` at the offsets `base`, `base + 1`, ... and changes no other
offset (R50, R101). -/
def Memory.store (m : Memory) (base : Nat) (bytes : List Byte) : Memory :=
  m.filter (fun c => c.1 < base) ++ Memory.entries base bytes ++
    m.filter (fun c => base + bytes.length ≤ c.1)

/-- Sets every slot of the matrix window to 0x00 (46_matrix.md R301). -/
def Memory.clearMatrix (m : Memory) : Memory := m.filter (fun c => !Region.matrix.holds c.1)

/-- The byte that a read of offset `a` gives: its content, or the free value of
this read where it has none (R105). -/
def Memory.read (m : Memory) (draw a : Nat) : Byte :=
  (Memory.get? m a).getD (Config.freeByte draw a)

/-- `n` consecutive bytes from offset `base` on, all read at one draw. -/
def Memory.readBlock (m : Memory) (draw base n : Nat) : List Byte :=
  let w := m.filter (fun c => base ≤ c.1 && c.1 < base + n)
  (List.range n).map (fun i => Memory.read w draw (base + i))

/-! ## Buffers -/

/-- Bytes 0..n-1 of a buffer, `B[BUF][i]` of R11, as this command reads them. -/
def State.readBuf (s : State) (g : Region) (n : Nat) : List Byte :=
  Memory.readBlock s.mem s.draws g.base n

/-- Writes bytes 0.. of a buffer (R50). -/
def State.writeBuf (s : State) (g : Region) (bytes : List Byte) : State :=
  { s with mem := Memory.store s.mem g.base bytes }

/-- The next read draws afresh from the free values (R105). -/
def State.drawn (s : State) : State := { s with draws := s.draws + 1 }

/-! ## Registers -/

/-- Writes RESULT (R178): the callers zero-extend. -/
def State.setResult (s : State) (r : Word) : State := { s with result := r }

/-- Moves STATUS.STAGE (R395). -/
def State.setStage (s : State) (g : Stage) : State := { s with status := s.status.withStage g }

/-! ## The matrix -/

/-- The tri-state value of a module (R11, R53). -/
inductive ModState where
  | unset
  | light
  | dark
  deriving DecidableEq, Repr

/-- A matrix cell `X[r][c]` (R11): its state, and whether it is a function
module. -/
structure MCell where
  state : ModState
  func : Bool
  deriving DecidableEq, Repr

/-- The DARK bit of a cell (R53). -/
def MCell.isDark (x : MCell) : Bool := x.state == .dark

/-- The module of a colour (R322, R365). -/
def ModState.ofDark (d : Bool) : ModState := if d then .dark else .light

/-- The cell before anything is written (R301). -/
def MCell.empty : MCell := { state := .unset, func := false }

/-- The byte of a cell (R53): DARK [0], SET [1], FUNC [2]. -/
def MCell.toByte (x : MCell) : Byte :=
  (0 : BitVec 5) ++ flagBit x.func ++ flagBit (x.state != .unset) ++ flagBit x.isDark

/-- The cell of a byte (R53). (SET, DARK) = (0, 1) never occurs. -/
def MCell.ofByte (b : Byte) : MCell :=
  { state := if b.getLsbD 1 then ModState.ofDark (b.getLsbD 0) else .unset
    func := b.getLsbD 2 }

/-- A square of cells, row by row from the top, each from the left (R11). -/
abbrev Grid := List (List MCell)

/-- The cell (r, c); empty outside the grid. -/
def Grid.get (g : Grid) (r c : Nat) : MCell := (g.getD r []).getD c MCell.empty

/-- `X[r][c] <- x` (R11). -/
def Grid.set (g : Grid) (r c : Nat) (x : MCell) : Grid := g.modify r (fun row => row.set c x)

/-- The n×n grid with no cell resolved (R301). -/
def Grid.blank (n : Nat) : Grid := List.replicate n (List.replicate n MCell.empty)

/-- The offset of slot (r, c) (R53). -/
def slotOffset (r c : Nat) : Nat := Region.matrix.base + Config.matrixStride * r + c

/-- The n×n grid in the matrix memory. -/
def State.readGrid (s : State) (n : Nat) : Grid :=
  (List.range n).map (fun r =>
    (Memory.readBlock s.mem s.draws (slotOffset r 0) n).map MCell.ofByte)

/-- Stores rows of cells from row `r` on. -/
def Memory.storeRows (m : Memory) : Nat → Grid → Memory
  | _, [] => m
  | r, row :: rows =>
    Memory.storeRows (Memory.store m (slotOffset r 0) (row.map MCell.toByte)) (r + 1) rows

/-- Writes a grid into the matrix memory, leaving every other offset alone. -/
def State.writeGrid (s : State) (g : Grid) : State :=
  { s with mem := Memory.storeRows s.mem 0 g }

/-! ## Completion of a command -/

/-- Successful completion: BUSY falls and DONE rises (R410 step 3). -/
def State.complete (s : State) : State := { s with status := s.status.completed }

/-- RAISING AN ERROR, the one exception entry of this core (R411, R416): STATUS
reports it, ERRINFO keeps the opcode, ECL, BAND and STAGE of the command's start
(R36; log entry 20), and STAGE falls to IDLE when `toIdle` says so (R395). Nothing else is
written. -/
def State.raise (op : BitVec 8) (toIdle : Bool) (e : ErrCode) (s : State) : State :=
  let st := s.status.failed e
  { s with
    status := if toIdle then st.withStage .idle else st
    errInfo := { opcode := op, ecl := s.config.ecl, band := s.config.band
                 stage := s.status.stage } }

/-- THE RETURN (R417): there is no return instruction. The host acknowledges a
completion by writing `w` to STATUS, which drops DONE, and ERRSTICKY likewise. -/
def State.acknowledge (w : Word) (s : State) : State :=
  { s with status := s.status.hostWrite w }

/-- The commands whose error sends STAGE to IDLE (R395, R411). -/
def errorToIdle : Instr → Bool
  | .analyze => true
  | .encodeQr => true
  | _ => false

/-- The commands that read the payload before their last check (R244): the values of
never-written bytes are drawn although the command fails (R105; log entry 2). -/
def readsBeforeError : Instr → Bool
  | .analyze => true
  | .encodeQr => true
  | _ => false

/-- Command `i` ends in error `e` (R411). A command that may have read the payload
draws from the free values, as one that succeeds does (log entry 2). -/
def State.fail (i : Instr) (e : ErrCode) (s : State) : State :=
  { s.raise (opcode i) (errorToIdle i) e with
    draws := if readsBeforeError i then s.draws + 1 else s.draws }

/-- Steps 2 and 3 of the lifecycle (R410): the command's rule, then its
completion. A rule that raises leaves nothing of itself behind (R411). -/
def runCommand (i : Instr) (rule : State → Except ErrCode State) (s : State) :
    Host.Outcome State Fault Refusal :=
  match rule s with
  | .ok t => .next t.complete
  | .error e => .next (s.fail i e)

/-- The stage check of the single-stage commands (R395, R414): it is their only
check, and in the wrong stage nothing is done. -/
def inStage (g : Stage) (rule : State → State) (s : State) : Except ErrCode State :=
  if s.status.stage = g then .ok (rule s) else .error .phaseOrder

/-! ## Issue -/

/-- The issue of a valid command word `w` (R140, R410 step 1), which the
sequencer completes after `wait` further cycles. -/
def State.issue (w : Word) (wait : Nat) (s : State) : State :=
  { s with cmd := w, status := s.status.issued, wait := wait }

/-- ILLEGAL_OPCODE: the word `w` completes at once (R140, R415). -/
def State.rejectCommand (w : Word) (s : State) : State :=
  State.raise (CommandWord.ofWord w).opcode false .illegalOpcode
    { s with cmd := w, status := s.status.clearForIssue }

/-! ## Reset -/

/-- Every register at its value after reset (R450), the hidden side register and
the cache with them; buffers, matrix bytes and the model's own fields stay. -/
def State.resetRegisters (s : State) : State :=
  { State.reset with
    mem := s.mem, rstN := s.rstN, latencies := s.latencies, inbox := s.inbox
    outbox := s.outbox, draws := s.draws }

/-- Soft reset with IE taking bit 0 of the written word (R452). The matrix bytes stay
behind MXN = 0 (log entry 13). -/
def State.softReset (ie : Bool) (s : State) : State := { s.resetRegisters with ctrlIE := ie }

/-- Hardware reset (R450, R451): as well, no buffer byte keeps a value. -/
def State.hardReset (s : State) : State := { s.resetRegisters with mem := [] }

end Sys2Proof.Machine
end

