-- ==== Sys2Proof/Machine/Bus.lean ====
section
/-! DEFINITION. The host bus (20_memory.md R100-R120): reads and writes of
registers, buffers and the matrix window, the accesses refused while a command
runs (R110, R460), the resets (R451, R452), and one cycle of the host's side of
the machine. -/

namespace Sys2Proof.Machine

/-! ## Reads -/

/-- The host-visible content of the register at a word-aligned offset (R31);
none where no register is mapped. -/
def State.readReg (s : State) (a : Nat) : Option Word :=
  match a with
  | 0x000 => some Config.idValue
  | 0x004 => some s.ctrlWord
  | 0x008 => some s.cmd
  | 0x00C => some s.status.word
  | 0x010 => some s.errInfo.word
  | 0x014 => some s.config.word
  | 0x018 => some (s.payloadLen.setWidth 32)
  | 0x020 => some s.opa
  | 0x024 => some s.opb
  | 0x028 => some s.result
  | 0x02C => some s.rsCfg.word
  | 0x040 => some s.arMode.word
  | 0x044 => some (s.arCount.setWidth 32)
  | 0x048 => some (s.arPbits.setWidth 32)
  | 0x04C => some s.arVersion.word
  | 0x050 => some (s.arReqbits.setWidth 32)
  | 0x054 => some (s.capBits.setWidth 32)
  | 0x058 => some (s.dcwLen.setWidth 32)
  | 0x05C => some (s.finalLen.setWidth 32)
  | 0x060 => some (s.streamBits.setWidth 32)
  | 0x064 => some s.blkG1.word
  | 0x068 => some s.blkG2.word
  | 0x06C => some (s.maskSel.setWidth 32)
  | 0x070 => some (s.formatBits.setWidth 32)
  | 0x074 => some (s.versionBits.setWidth 32)
  | 0x078 => some (s.placedBits.setWidth 32)
  | a =>
    if 0x080 ≤ a ∧ a < 0x0A0 ∧ a % 4 = 0 then s.penalty[(a - 0x080) / 4]?
    else if 0x100 ≤ a ∧ a < 0x180 ∧ a % 4 = 0 then
      (s.penRule[(a - 0x100) / 16]?).bind (fun row => row[(a - 0x100) % 16 / 4]?)
    else none

/-- The row and column of a matrix slot (R53). -/
def slotOf (a : Nat) : Nat × Nat :=
  ((a - Region.matrix.base) / Config.matrixStride, (a - Region.matrix.base) % Config.matrixStride)

/-- Whether a matrix slot holds a cell: row and column below MXN (R53). -/
def State.slotShown (s : State) (a : Nat) : Bool := (slotOf a).1 < s.mxn && (slotOf a).2 < s.mxn

/-- The byte that the host reads at an offset of a buffer or of the matrix
window: a slot outside MXN × MXN reads 0x00 (R53). -/
def State.hostByte (s : State) (a : Nat) : Byte :=
  if Region.matrix.holds a && !s.slotShown a then 0 else Memory.read s.mem s.draws a

/-- The data of a read of `n` bytes, little-endian, zero-extended (R101, R120). -/
def State.hostBytes (s : State) (a : Nat) (n : Nat) : Word :=
  match n with
  | 1 => (s.hostByte a).setWidth 32
  | 2 => (s.hostByte (a + 1) ++ s.hostByte a).setWidth 32
  | _ => s.hostByte (a + 3) ++ s.hostByte (a + 2) ++ s.hostByte (a + 1) ++ s.hostByte a

/-- What an access with a known location and no form error reads (R105). -/
def State.readLocation (s : State) (a : Nat) (size : AccessSize) : Option Word :=
  match regionOf a with
  | none => none
  | some .registers => s.readReg a
  | some _ => some (s.hostBytes a size.bytes)

/-- An access form that is refused wherever it points: misaligned (R102), or
narrower than a word in the register window (R104). -/
def badForm (a : Nat) (size : AccessSize) : Bool :=
  a % size.bytes != 0 || (regionOf a == some .registers && size != .four)

/-- The low `8·size` bits of a word. -/
def lowBytes (size : AccessSize) (w : Word) : Word :=
  match size with
  | .one => (w.extractLsb' 0 8).setWidth 32
  | .two => (w.extractLsb' 0 16).setWidth 32
  | .four => w

/-- The registers that keep their value readable while BUSY = 1: ID, CTRL, CMD,
STATUS (R110). -/
def readableWhileBusy (a : Nat) : Bool := a == 0x000 || a == 0x004 || a == 0x008 || a == 0x00C

/-- The answer to a read (R102-R110, R451). A read changes no state of the core
(R108). A refused form or an unmapped offset reads 0 whatever the core does (R102,
R104, R107, 93 U9), so it is looked at before rst_n, and before BUSY (log entry 9). -/
def State.readAnswer (s : State) (a : Nat) (size : AccessSize) : Response :=
  if badForm a size then .read .error 0
  else
    match s.readLocation a size with
    | none => .read .error 0
    | some w =>
      let free := lowBytes size (Config.freeWord s.draws a)
      if s.rstN = false then .read .error free
      else if s.status.busy && !readableWhileBusy a then .read .okay free
      else .read .okay w

/-! ## Writes -/

/-- The bytes of a write, lowest offset first (R101). Data above `8·size` bits is
not looked at (log entry 21). -/
def writeBytes (size : AccessSize) (w : Word) : List Byte :=
  match size with
  | .one => [w.extractLsb' 0 8]
  | .two => [w.extractLsb' 0 8, w.extractLsb' 8 8]
  | .four => [w.extractLsb' 0 8, w.extractLsb' 8 8, w.extractLsb' 16 8, w.extractLsb' 24 8]

/-- A write to CTRL (R32, R452): bit 1 resets, and IE takes bit 0. -/
def State.writeCtrl (w : Word) (s : State) : State :=
  if w.getLsbD 1 then s.softReset (w.getLsbD 0) else { s with ctrlIE := w.getLsbD 0 }

/-- A write to CMD while BUSY = 0 (R140): a valid word is issued with the next
latency, any other completes at once. Both are accepted (log entry 17). -/
def State.writeCmd (w : Word) (s : State) : State :=
  match decode w with
  | some _ => { s.issue w (s.latencies.headD 0) with latencies := s.latencies.tail }
  | none => s.rejectCommand w

/-- A write to the register at a word-aligned offset (R31, R106, R109); none
where it is refused with ERROR. -/
def State.writeReg (s : State) (a : Nat) (w : Word) : Option State :=
  match a with
  | 0x004 => some (s.writeCtrl w)
  | 0x008 => some (s.writeCmd w)
  | 0x00C => some (s.acknowledge w)
  | 0x014 => some ({ s with config := CfgReg.ofWord w }.setStage .idle)
  | 0x018 => some ({ s with payloadLen := w.extractLsb' 0 16 }.setStage .idle)
  | 0x020 => some { s with opa := w }
  | 0x024 => some { s with opb := w }
  | 0x02C => some { s with rsCfg := RsCfgReg.ofWord w }
  | _ => none

/-- A write to a location (R106, R107, R109); none where it is refused. -/
def State.writeLocation (s : State) (a : Nat) (size : AccessSize) (w : Word) : Option State :=
  match regionOf a with
  | some .registers => s.writeReg a w
  | some .rsdata => some { s with mem := Memory.store s.mem a (writeBytes size w) }
  | some .payload =>
    some ({ s with mem := Memory.store s.mem a (writeBytes size w) }.setStage .idle)
  | _ => none

/-- The state after a write, if it is accepted (R102-R110, R451, R460): while
BUSY = 1 only CTRL is. -/
def State.writeAccepted (s : State) (a : Nat) (size : AccessSize) (w : Word) : Option State :=
  if s.rstN = false || badForm a size || (s.status.busy && a != 0x004) then none
  else s.writeLocation a size w

/-! ## One cycle of the host's side -/

/-- The core's answer enters the log of answers. -/
def State.answer (r : Response) (s : State) : State := { s with outbox := r :: s.outbox }

/-- One bus access (R100): the answer is logged, and an accepted write takes
effect. -/
def State.perform (s : State) : BusAccess → State
  | .read a size => (s.answer (s.readAnswer a.toNat size)).drawn
  | .write a size w =>
    match s.writeAccepted a.toNat size w with
    | some t => t.answer (.write .okay)
    | none => s.answer (.write .error)

/-- A change of rst_n (R451): the falling input resets the core and abandons the
command in progress. -/
def State.setRstN (level : Bool) (s : State) : State :=
  if level then { s with rstN := true } else { s.hardReset with rstN := false }

/-- What the host does in one cycle. -/
def State.hostEvent (s : State) : HostEvent → State
  | .access a => s.perform a
  | .idle => s
  | .rstN level => s.setRstN level

/-- A cycle in which the command in progress does not complete: its remaining
latency goes down, and the host's next event happens. -/
def State.hostTurn (s : State) : State :=
  let t := { s with wait := if s.status.busy then s.wait - 1 else s.wait }
  match s.inbox with
  | [] => t
  | e :: rest => { t with inbox := rest }.hostEvent e

/-- Whether rst_n falls in this cycle. -/
def State.resetFalls (s : State) : Bool :=
  match s.inbox with
  | .rstN false :: _ => true
  | _ => false

/-- Whether the sequencer completes its command in this cycle: one is in
progress, its latency is over (R410, R465), and no hardware reset abandons it: reset
takes precedence over every other event (R451). -/
def State.coreTurn (s : State) : Bool :=
  s.rstN && s.status.busy && s.wait == 0 && !s.resetFalls

/-- The same events without a fall of rst_n that comes first. -/
def withoutReset (es : List HostEvent) : List HostEvent := es.dropWhile (· == .rstN false)

end Sys2Proof.Machine
end

