-- ==== Sys2Proof/Machine/Roms.lean ====
section
/-! DEFINITION. The constant ROMs of the core (10_state.md R40-R47): their
contents never change (R48). -/

namespace Sys2Proof.Machine

/-! ## EXP and LOG -/

/-- The EXP table of R40, entries 0.. -/
def expRow0 : List Byte :=
  [1, 2, 4, 8, 16, 32, 64, 128, 29, 58, 116, 232, 205, 135, 19, 38,
   76, 152, 45, 90, 180, 117, 234, 201, 143, 3, 6, 12, 24, 48, 96, 192,
   157, 39, 78, 156, 37, 74, 148, 53, 106, 212, 181, 119, 238, 193, 159, 35,
   70, 140, 5, 10, 20, 40, 80, 160, 93, 186, 105, 210, 185, 111, 222, 161]

/-- The EXP table of R40, entries 64.. -/
def expRow1 : List Byte :=
  [95, 190, 97, 194, 153, 47, 94, 188, 101, 202, 137, 15, 30, 60, 120, 240,
   253, 231, 211, 187, 107, 214, 177, 127, 254, 225, 223, 163, 91, 182, 113, 226,
   217, 175, 67, 134, 17, 34, 68, 136, 13, 26, 52, 104, 208, 189, 103, 206,
   129, 31, 62, 124, 248, 237, 199, 147, 59, 118, 236, 197, 151, 51, 102, 204]

/-- The EXP table of R40, entries 128.. -/
def expRow2 : List Byte :=
  [133, 23, 46, 92, 184, 109, 218, 169, 79, 158, 33, 66, 132, 21, 42, 84,
   168, 77, 154, 41, 82, 164, 85, 170, 73, 146, 57, 114, 228, 213, 183, 115,
   230, 209, 191, 99, 198, 145, 63, 126, 252, 229, 215, 179, 123, 246, 241, 255,
   227, 219, 171, 75, 150, 49, 98, 196, 149, 55, 110, 220, 165, 87, 174, 65]

/-- The EXP table of R40, entries 192.. -/
def expRow3 : List Byte :=
  [130, 25, 50, 100, 200, 141, 7, 14, 28, 56, 112, 224, 221, 167, 83, 166,
   81, 162, 89, 178, 121, 242, 249, 239, 195, 155, 43, 86, 172, 69, 138, 9,
   18, 36, 72, 144, 61, 122, 244, 245, 247, 243, 251, 235, 203, 139, 11, 22,
   44, 88, 176, 125, 250, 233, 207, 131, 27, 54, 108, 216, 173, 71, 142]

/-- The EXP table of R40, i = 0..254. -/
def expTable : List Byte := expRow0 ++ expRow1 ++ expRow2 ++ expRow3

/-- EXP ROM (R40): entries 255..511 repeat the table. -/
def expRom (i : Nat) : Byte := expTable.getD (i % 255) 0

/-- The LOG table of R41, entries 0.. -/
def logRow0 : List Byte :=
  [0, 0, 1, 25, 2, 50, 26, 198, 3, 223, 51, 238, 27, 104, 199, 75,
   4, 100, 224, 14, 52, 141, 239, 129, 28, 193, 105, 248, 200, 8, 76, 113,
   5, 138, 101, 47, 225, 36, 15, 33, 53, 147, 142, 218, 240, 18, 130, 69,
   29, 181, 194, 125, 106, 39, 249, 185, 201, 154, 9, 120, 77, 228, 114, 166]

/-- The LOG table of R41, entries 64.. -/
def logRow1 : List Byte :=
  [6, 191, 139, 98, 102, 221, 48, 253, 226, 152, 37, 179, 16, 145, 34, 136,
   54, 208, 148, 206, 143, 150, 219, 189, 241, 210, 19, 92, 131, 56, 70, 64,
   30, 66, 182, 163, 195, 72, 126, 110, 107, 58, 40, 84, 250, 133, 186, 61,
   202, 94, 155, 159, 10, 21, 121, 43, 78, 212, 229, 172, 115, 243, 167, 87]

/-- The LOG table of R41, entries 128.. -/
def logRow2 : List Byte :=
  [7, 112, 192, 247, 140, 128, 99, 13, 103, 74, 222, 237, 49, 197, 254, 24,
   227, 165, 153, 119, 38, 184, 180, 124, 17, 68, 146, 217, 35, 32, 137, 46,
   55, 63, 209, 91, 149, 188, 207, 205, 144, 135, 151, 178, 220, 252, 190, 97,
   242, 86, 211, 171, 20, 42, 93, 158, 132, 60, 57, 83, 71, 109, 65, 162]

/-- The LOG table of R41, entries 192.. -/
def logRow3 : List Byte :=
  [31, 45, 67, 216, 183, 123, 164, 118, 196, 23, 73, 236, 127, 12, 111, 246,
   108, 161, 59, 82, 41, 157, 85, 170, 251, 96, 134, 177, 187, 204, 62, 90,
   203, 89, 95, 176, 156, 169, 160, 81, 11, 245, 22, 235, 122, 117, 44, 215,
   79, 174, 213, 233, 230, 231, 173, 232, 116, 214, 244, 234, 168, 80, 88, 175]

/-- The LOG table of R41. Its entry 0, which the spec leaves without a value, is a
filler that `logRom` never shows. -/
def logTable : List Byte := logRow0 ++ logRow1 ++ logRow2 ++ logRow3

/-- LOG ROM (R41): the entry for 0 has no defined value. -/
def logRom (a : Byte) : Byte := if a = 0 then Config.logZero else logTable.getD a.toNat 0

/-- Multiplication by α = 2 modulo 0x11D, `xtime` of R40. -/
def xtime (a : Byte) : Byte := (a <<< 1) ^^^ (if a.getLsbD 7 then 0x1D else 0)

/-! ## BLOCK, ALIGN and REM -/

/-- BLOCK table of R42, versions 1..10: for each the levels L, M, Q, H, each
with ec, count1, data1, count2, data2. -/
def blockRows0 : List (List BlockEntry) :=
  [[⟨7, 1, 19, 0, 0⟩, ⟨10, 1, 16, 0, 0⟩, ⟨13, 1, 13, 0, 0⟩, ⟨17, 1, 9, 0, 0⟩],
   [⟨10, 1, 34, 0, 0⟩, ⟨16, 1, 28, 0, 0⟩, ⟨22, 1, 22, 0, 0⟩, ⟨28, 1, 16, 0, 0⟩],
   [⟨15, 1, 55, 0, 0⟩, ⟨26, 1, 44, 0, 0⟩, ⟨18, 2, 17, 0, 0⟩, ⟨22, 2, 13, 0, 0⟩],
   [⟨20, 1, 80, 0, 0⟩, ⟨18, 2, 32, 0, 0⟩, ⟨26, 2, 24, 0, 0⟩, ⟨16, 4, 9, 0, 0⟩],
   [⟨26, 1, 108, 0, 0⟩, ⟨24, 2, 43, 0, 0⟩, ⟨18, 2, 15, 2, 16⟩, ⟨22, 2, 11, 2, 12⟩],
   [⟨18, 2, 68, 0, 0⟩, ⟨16, 4, 27, 0, 0⟩, ⟨24, 4, 19, 0, 0⟩, ⟨28, 4, 15, 0, 0⟩],
   [⟨20, 2, 78, 0, 0⟩, ⟨18, 4, 31, 0, 0⟩, ⟨18, 2, 14, 4, 15⟩, ⟨26, 4, 13, 1, 14⟩],
   [⟨24, 2, 97, 0, 0⟩, ⟨22, 2, 38, 2, 39⟩, ⟨22, 4, 18, 2, 19⟩, ⟨26, 4, 14, 2, 15⟩],
   [⟨30, 2, 116, 0, 0⟩, ⟨22, 3, 36, 2, 37⟩, ⟨20, 4, 16, 4, 17⟩, ⟨24, 4, 12, 4, 13⟩],
   [⟨18, 2, 68, 2, 69⟩, ⟨26, 4, 43, 1, 44⟩, ⟨24, 6, 19, 2, 20⟩, ⟨28, 6, 15, 2, 16⟩]]

/-- BLOCK table of R42, versions 11..20: for each the levels L, M, Q, H, each
with ec, count1, data1, count2, data2. -/
def blockRows1 : List (List BlockEntry) :=
  [[⟨20, 4, 81, 0, 0⟩, ⟨30, 1, 50, 4, 51⟩, ⟨28, 4, 22, 4, 23⟩, ⟨24, 3, 12, 8, 13⟩],
   [⟨24, 2, 92, 2, 93⟩, ⟨22, 6, 36, 2, 37⟩, ⟨26, 4, 20, 6, 21⟩, ⟨28, 7, 14, 4, 15⟩],
   [⟨26, 4, 107, 0, 0⟩, ⟨22, 8, 37, 1, 38⟩, ⟨24, 8, 20, 4, 21⟩, ⟨22, 12, 11, 4, 12⟩],
   [⟨30, 3, 115, 1, 116⟩, ⟨24, 4, 40, 5, 41⟩, ⟨20, 11, 16, 5, 17⟩, ⟨24, 11, 12, 5, 13⟩],
   [⟨22, 5, 87, 1, 88⟩, ⟨24, 5, 41, 5, 42⟩, ⟨30, 5, 24, 7, 25⟩, ⟨24, 11, 12, 7, 13⟩],
   [⟨24, 5, 98, 1, 99⟩, ⟨28, 7, 45, 3, 46⟩, ⟨24, 15, 19, 2, 20⟩, ⟨30, 3, 15, 13, 16⟩],
   [⟨28, 1, 107, 5, 108⟩, ⟨28, 10, 46, 1, 47⟩, ⟨28, 1, 22, 15, 23⟩, ⟨28, 2, 14, 17, 15⟩],
   [⟨30, 5, 120, 1, 121⟩, ⟨26, 9, 43, 4, 44⟩, ⟨28, 17, 22, 1, 23⟩, ⟨28, 2, 14, 19, 15⟩],
   [⟨28, 3, 113, 4, 114⟩, ⟨26, 3, 44, 11, 45⟩, ⟨26, 17, 21, 4, 22⟩, ⟨26, 9, 13, 16, 14⟩],
   [⟨28, 3, 107, 5, 108⟩, ⟨26, 3, 41, 13, 42⟩, ⟨30, 15, 24, 5, 25⟩, ⟨28, 15, 15, 10, 16⟩]]

/-- BLOCK table of R42, versions 21..30: for each the levels L, M, Q, H, each
with ec, count1, data1, count2, data2. -/
def blockRows2 : List (List BlockEntry) :=
  [[⟨28, 4, 116, 4, 117⟩, ⟨26, 17, 42, 0, 0⟩, ⟨28, 17, 22, 6, 23⟩, ⟨30, 19, 16, 6, 17⟩],
   [⟨28, 2, 111, 7, 112⟩, ⟨28, 17, 46, 0, 0⟩, ⟨30, 7, 24, 16, 25⟩, ⟨24, 34, 13, 0, 0⟩],
   [⟨30, 4, 121, 5, 122⟩, ⟨28, 4, 47, 14, 48⟩, ⟨30, 11, 24, 14, 25⟩, ⟨30, 16, 15, 14, 16⟩],
   [⟨30, 6, 117, 4, 118⟩, ⟨28, 6, 45, 14, 46⟩, ⟨30, 11, 24, 16, 25⟩, ⟨30, 30, 16, 2, 17⟩],
   [⟨26, 8, 106, 4, 107⟩, ⟨28, 8, 47, 13, 48⟩, ⟨30, 7, 24, 22, 25⟩, ⟨30, 22, 15, 13, 16⟩],
   [⟨28, 10, 114, 2, 115⟩, ⟨28, 19, 46, 4, 47⟩, ⟨28, 28, 22, 6, 23⟩, ⟨30, 33, 16, 4, 17⟩],
   [⟨30, 8, 122, 4, 123⟩, ⟨28, 22, 45, 3, 46⟩, ⟨30, 8, 23, 26, 24⟩, ⟨30, 12, 15, 28, 16⟩],
   [⟨30, 3, 117, 10, 118⟩, ⟨28, 3, 45, 23, 46⟩, ⟨30, 4, 24, 31, 25⟩, ⟨30, 11, 15, 31, 16⟩],
   [⟨30, 7, 116, 7, 117⟩, ⟨28, 21, 45, 7, 46⟩, ⟨30, 1, 23, 37, 24⟩, ⟨30, 19, 15, 26, 16⟩],
   [⟨30, 5, 115, 10, 116⟩, ⟨28, 19, 47, 10, 48⟩, ⟨30, 15, 24, 25, 25⟩, ⟨30, 23, 15, 25, 16⟩]]

/-- BLOCK table of R42, versions 31..40: for each the levels L, M, Q, H, each
with ec, count1, data1, count2, data2. -/
def blockRows3 : List (List BlockEntry) :=
  [[⟨30, 13, 115, 3, 116⟩, ⟨28, 2, 46, 29, 47⟩, ⟨30, 42, 24, 1, 25⟩, ⟨30, 23, 15, 28, 16⟩],
   [⟨30, 17, 115, 0, 0⟩, ⟨28, 10, 46, 23, 47⟩, ⟨30, 10, 24, 35, 25⟩, ⟨30, 19, 15, 35, 16⟩],
   [⟨30, 17, 115, 1, 116⟩, ⟨28, 14, 46, 21, 47⟩, ⟨30, 29, 24, 19, 25⟩, ⟨30, 11, 15, 46, 16⟩],
   [⟨30, 13, 115, 6, 116⟩, ⟨28, 14, 46, 23, 47⟩, ⟨30, 44, 24, 7, 25⟩, ⟨30, 59, 16, 1, 17⟩],
   [⟨30, 12, 121, 7, 122⟩, ⟨28, 12, 47, 26, 48⟩, ⟨30, 39, 24, 14, 25⟩, ⟨30, 22, 15, 41, 16⟩],
   [⟨30, 6, 121, 14, 122⟩, ⟨28, 6, 47, 34, 48⟩, ⟨30, 46, 24, 10, 25⟩, ⟨30, 2, 15, 64, 16⟩],
   [⟨30, 17, 122, 4, 123⟩, ⟨28, 29, 46, 14, 47⟩, ⟨30, 49, 24, 10, 25⟩, ⟨30, 24, 15, 46, 16⟩],
   [⟨30, 4, 122, 18, 123⟩, ⟨28, 13, 46, 32, 47⟩, ⟨30, 48, 24, 14, 25⟩, ⟨30, 42, 15, 32, 16⟩],
   [⟨30, 20, 117, 4, 118⟩, ⟨28, 40, 47, 7, 48⟩, ⟨30, 43, 24, 22, 25⟩, ⟨30, 10, 15, 67, 16⟩],
   [⟨30, 19, 118, 6, 119⟩, ⟨28, 18, 47, 31, 48⟩, ⟨30, 34, 24, 34, 25⟩, ⟨30, 20, 15, 61, 16⟩]]

/-- The BLOCK table of R42, versions 1..40. -/
def blockTable : List (List BlockEntry) := blockRows0 ++ blockRows1 ++ blockRows2 ++ blockRows3

/-- BLOCK ROM (R42). Versions outside 1..40 have no row. -/
def blockRom (v : Nat) (ecl : BitVec 2) : BlockEntry :=
  if 1 ≤ v ∧ v ≤ 40 then (blockTable.getD (v - 1) []).getD ecl.toNat default
  else Config.freeBlock v ecl

/-- The number of blocks, NB (45_interleave.md). -/
def numBlocks (b : BlockEntry) : Nat := b.count1 + b.count2

/-- Total data bytes D(v, e) (R42). -/
def dataBytes (b : BlockEntry) : Nat := b.count1 * b.data1 + b.count2 * b.data2

/-- The version's total codewords T = D + NB·ec (R42, R284). -/
def totalCodewords (b : BlockEntry) : Nat := dataBytes b + numBlocks b * b.ec

/-- cap(v, e) = 8·D(v, e) (R242). -/
def capacityBits (v : Nat) (ecl : BitVec 2) : Nat := 8 * dataBytes (blockRom v ecl)

/-- ALIGN table of R43, versions 1..10. -/
def alignRows0 : List (List Nat) :=
  [[],
   [6, 18],
   [6, 22],
   [6, 26],
   [6, 30],
   [6, 34],
   [6, 22, 38],
   [6, 24, 42],
   [6, 26, 46],
   [6, 28, 50]]

/-- ALIGN table of R43, versions 11..20. -/
def alignRows1 : List (List Nat) :=
  [[6, 30, 54],
   [6, 32, 58],
   [6, 34, 62],
   [6, 26, 46, 66],
   [6, 26, 48, 70],
   [6, 26, 50, 74],
   [6, 30, 54, 78],
   [6, 30, 56, 82],
   [6, 30, 58, 86],
   [6, 34, 62, 90]]

/-- ALIGN table of R43, versions 21..30. -/
def alignRows2 : List (List Nat) :=
  [[6, 28, 50, 72, 94],
   [6, 26, 50, 74, 98],
   [6, 30, 54, 78, 102],
   [6, 28, 54, 80, 106],
   [6, 32, 58, 84, 110],
   [6, 30, 58, 86, 114],
   [6, 34, 62, 90, 118],
   [6, 26, 50, 74, 98, 122],
   [6, 30, 54, 78, 102, 126],
   [6, 26, 52, 78, 104, 130]]

/-- ALIGN table of R43, versions 31..40. -/
def alignRows3 : List (List Nat) :=
  [[6, 30, 56, 82, 108, 134],
   [6, 34, 60, 86, 112, 138],
   [6, 30, 58, 86, 114, 142],
   [6, 34, 62, 90, 118, 146],
   [6, 30, 54, 78, 102, 126, 150],
   [6, 24, 50, 76, 102, 128, 154],
   [6, 28, 54, 80, 106, 132, 158],
   [6, 32, 58, 84, 110, 136, 162],
   [6, 26, 54, 82, 110, 138, 166],
   [6, 30, 58, 86, 114, 142, 170]]

/-- The ALIGN table of R43, versions 1..40. -/
def alignTable : List (List Nat) := alignRows0 ++ alignRows1 ++ alignRows2 ++ alignRows3

/-- ALIGN ROM (R43). Versions outside 1..40 have no row. -/
def alignRom (v : Nat) : List Nat :=
  if 1 ≤ v ∧ v ≤ 40 then alignTable.getD (v - 1) [] else Config.freeAlign v

/-- REM ROM (R44). Versions outside 1..40 have no entry. -/
def remRom (v : Nat) : Nat :=
  if v = 1 ∨ (7 ≤ v ∧ v ≤ 13) ∨ (35 ≤ v ∧ v ≤ 40) then 0
  else if 2 ≤ v ∧ v ≤ 6 then 7
  else if (14 ≤ v ∧ v ≤ 20) ∨ (28 ≤ v ∧ v ≤ 34) then 3
  else if 21 ≤ v ∧ v ≤ 27 then 4
  else Config.freeRem v

/-! ## CCW, mode indicators and ALNUM -/

/-- The three payload classes (00_scope.md R12). -/
inductive Mode where
  | numeric
  | alphanumeric
  | byte
  deriving DecidableEq, Repr

/-- The mode indicators (R46). -/
def Mode.indicator : Mode → BitVec 4
  | .numeric => 0b0001
  | .alphanumeric => 0b0010
  | .byte => 0b0100

/-- CCW ROM (R45): the character-count field width. Versions outside 1..40 have no
entry (log entry 7). -/
def ccwRom (m : Mode) (v : Nat) : Nat :=
  if 1 ≤ v ∧ v ≤ 40 then
    match m with
    | .numeric => if v ≤ 9 then 10 else if v ≤ 26 then 12 else 14
    | .alphanumeric => if v ≤ 9 then 9 else if v ≤ 26 then 11 else 13
    | .byte => if v ≤ 9 then 8 else 16
  else Config.freeCcw m.indicator v

/-- The mode an indicator stands for. Only 1, 2 and 4 are ever held with a
valid analyzer result; any other value is read as byte mode (log entry 8). -/
def Mode.ofIndicator (b : BitVec 4) : Mode :=
  if b = 0b0001 then .numeric else if b = 0b0010 then .alphanumeric else .byte

/-- The ECI mode indicator (R46). -/
def eciIndicator : Nat := 0b0111

/-- The ECI designator of UTF-8 (R46). -/
def eciDesignator : Nat := 26

/-- The punctuation of the ALNUM ROM with its values (R47). -/
def alnumPunctuation : List (Byte × Nat) :=
  [(0x20, 36), (0x24, 37), (0x25, 38), (0x2A, 39), (0x2B, 40), (0x2D, 41), (0x2E, 42),
   (0x2F, 43), (0x3A, 44)]

/-- ALNUM ROM (R47): the value of a character, none outside the alphabet. -/
def alnumRom (b : Byte) : Option Nat :=
  if 0x30 ≤ b.toNat ∧ b.toNat ≤ 0x39 then some (b.toNat - 0x30)
  else if 0x41 ≤ b.toNat ∧ b.toNat ≤ 0x5A then some (b.toNat - 0x41 + 10)
  else (alnumPunctuation.find? (fun p => p.1 == b)).map Prod.snd

end Sys2Proof.Machine
end

