-- ==== Sys2Proof/Machine/Bch.lean ====
section
/-! DEFINITION. The BCH generator (47_mask_checksum.md R360, R362): format and
version information, and the commands BCH_FORMAT and BCH_VERSION (R361, R363). -/

namespace Sys2Proof.Machine

/-- One round of `bch_rem` (R360): where bit `s` of `r` is set, the generator,
aligned to it, is subtracted. -/
def bchStep (gen g r s : Nat) : Nat := if r.testBit s then r ^^^ (gen <<< (s - g)) else r

/-- `bch_rem(value, G, g)` (R360) for a value of at most 6 bits: the rounds run
down from bit g + 5 to bit g, and those above the value's top bit do nothing. -/
def bchRem (value gen g : Nat) : Nat :=
  [g + 5, g + 4, g + 3, g + 2, g + 1, g].foldl (bchStep gen g) (value <<< g)

/-- The 2-bit format code of an EC level (R360). -/
def formatCode (ecl : BitVec 2) : Nat :=
  match ecl.toNat with
  | 0 => 0b01
  | 1 => 0b00
  | 2 => 0b11
  | _ => 0b10

/-- The BCH(15,5) generator (R360). -/
def formatGenerator : Nat := 0b10100110111

/-- The XOR mask of the format information (R360). -/
def formatXorMask : Nat := 0b101010000010010

/-- The BCH(18,6) generator (R362). -/
def versionGenerator : Nat := 0b1111100100101

/-- `fmt(ecl, mask)` (R360). -/
def formatInfo (ecl : BitVec 2) (mask : Nat) : Nat :=
  let data5 := (formatCode ecl <<< 3) ||| mask
  ((data5 <<< 10) ||| bchRem data5 formatGenerator 10) ^^^ formatXorMask

/-- `ver(v)` (R362). -/
def versionInfo (v : Nat) : Nat := (v <<< 12) ||| bchRem v versionGenerator 12

/-- BCH_FORMAT (R361). -/
def execBchFormat (s : State) : Host.Outcome State Fault Refusal :=
  runCommand .bchFormat (fun s =>
    .ok (s.setResult (BitVec.ofNat 32 (formatInfo s.opA2 s.opB3.toNat)))) s

/-- BCH_VERSION (R363): the same formula for every v in 0..63. -/
def execBchVersion (s : State) : Host.Outcome State Fault Refusal :=
  runCommand .bchVersion (fun s =>
    .ok (s.setResult (BitVec.ofNat 32 (versionInfo s.opA6.toNat)))) s

end Sys2Proof.Machine
end

