-- ==== Sys2Proof/Machine/Analyzer.lean ====
section
/-! DEFINITION. The payload analyzer (43_analyzer.md): classification
(R230-R236), version selection (R240-R244), and the commands CLASSIFY and
ANALYZE (R237, R245). -/

namespace Sys2Proof.Machine

/-! ## Classification -/

/-- An ASCII digit (R230). -/
def isDigit (b : Byte) : Bool := 0x30 ≤ b.toNat && b.toNat ≤ 0x39

/-- A character of the alphanumeric alphabet (R231). -/
def isAlnum (b : Byte) : Bool := (alnumRom b).isSome

/-- The mode of a payload (R230-R232): the empty one is byte mode. -/
def modeOf (p : List Byte) : Mode :=
  if p ≠ [] ∧ p.all isDigit then .numeric
  else if p ≠ [] ∧ p.all isAlnum then .alphanumeric
  else .byte

/-- Whether the payload needs the ECI header (R233). -/
def eciOf (p : List Byte) : Bool := modeOf p == .byte && p.any (fun b => 0xC4 ≤ b.toNat)

/-- Payload data bits of n characters (R235). -/
def payloadBits (m : Mode) (n : Nat) : Nat :=
  match m with
  | .numeric => 10 * (n / 3) + [0, 4, 7].getD (n % 3) 0
  | .alphanumeric => 11 * (n / 2) + 6 * (n % 2)
  | .byte => 8 * n

/-- What the classification yields (R237). -/
structure Analysis where
  mode : Mode
  eci : Bool
  count : Nat
  pbits : Nat
  deriving DecidableEq, Repr

/-- R230-R236 on a payload. -/
def classify (p : List Byte) : Analysis :=
  { mode := modeOf p, eci := eciOf p, count := p.length
    pbits := payloadBits (modeOf p) p.length }

/-! ## Version selection -/

/-- Required bits at version v (R242). -/
def requiredBits (a : Analysis) (v : Nat) : Nat :=
  (if a.eci then 12 else 0) + 4 + ccwRom a.mode v + a.pbits

/-- The first version of a size band (R243; log entry 16); none for the reserved
band. -/
def bandMin (band : BitVec 2) : Option Nat :=
  match band.toNat with
  | 0 => some 1
  | 1 => some 10
  | 2 => some 27
  | _ => none

/-- The last version of a size band (R243). -/
def bandMax (band : BitVec 2) : Option Nat :=
  match band.toNat with
  | 0 => some 9
  | 1 => some 26
  | 2 => some 40
  | _ => none

/-- The version scan of R244 over lo..hi, ascending. -/
def scanVersions (a : Analysis) (ecl : BitVec 2) (lo hi : Nat) : Option Nat :=
  (List.range' lo (hi + 1 - lo)).find? (fun v => requiredBits a v ≤ capacityBits v ecl)

/-- The payload bytes 0..LEN-1 that a command reads. -/
def State.payload (s : State) : List Byte := s.readBuf .payload s.len

/-- The input limit of R241. -/
def tooLong (s : State) : Bool := Config.payloadBuf < s.len

/-- The analyzer up to its writes (R240-R245): the payload as it was read, its
analysis, and the selected version. -/
def selectVersion (s : State) : Except ErrCode (List Byte × Analysis × Nat) :=
  match bandMin s.config.band, bandMax s.config.band with
  | some lo, some hi =>
    if tooLong s then .error .payloadTooLarge
    else
      let p := s.payload
      match scanVersions (classify p) s.config.ecl (max lo s.config.minver.toNat) hi with
      | some v => .ok (p, classify p, v)
      | none => .error .payloadTooLarge
  | _, _ => .error .illegalConfig

/-! ## Commands -/

/-- The writes CLASSIFY and ANALYZE share: AR_MODE, AR_COUNT, AR_PBITS (R237). -/
def writeClass (a : Analysis) (s : State) : State :=
  { s with
    arMode := { mode := a.mode.indicator, eci := a.eci }
    arCount := BitVec.ofNat 16 a.count
    arPbits := BitVec.ofNat 17 a.pbits }

/-- The writes of ANALYZE (R245), its stage included. -/
def writeAnalysis (a : Analysis) (v : Nat) (s : State) : State :=
  let b := blockRom v s.config.ecl
  { writeClass a s with
    arVersion := { version := BitVec.ofNat 6 v, side := BitVec.ofNat 8 (sideOf v) }
    arReqbits := BitVec.ofNat 18 (requiredBits a v)
    capBits := BitVec.ofNat 16 (8 * dataBytes b)
    blkG1 := { count := BitVec.ofNat 8 b.count1, data := BitVec.ofNat 8 b.data1
               ec := BitVec.ofNat 8 b.ec }
    blkG2 := { count := BitVec.ofNat 8 b.count2, data := BitVec.ofNat 8 b.data2 }
    status := s.status.withStage .analyzed }

/-- CLASSIFY (R237): STAGE stays. -/
def execClassify (s : State) : Host.Outcome State Fault Refusal :=
  runCommand .classify (fun s =>
    if tooLong s then .error .payloadTooLarge
    else .ok (writeClass (classify s.payload) s).drawn) s

/-- ANALYZE (R245): an error sends STAGE to IDLE (R395). -/
def execAnalyze (s : State) : Host.Outcome State Fault Refusal :=
  runCommand .analyze (fun s =>
    (selectVersion s).map (fun r => (writeAnalysis r.2.1 r.2.2 s).drawn)) s

end Sys2Proof.Machine
end

