-- ==== Sys2Proof/Machine/Bitstream.lean ====
section
/-! DEFINITION. The bit-stream serializer (44_bitstream.md R261-R267) and the
command ENCODE_DATA (R260). -/

namespace Sys2Proof.Machine

/-- `put(val, w)` (R261): bits val[w-1], ..., val[0]. -/
def putBits (val : Nat) : Nat → List Bool
  | 0 => []
  | w + 1 => val.testBit w :: putBits val w

/-- The header (R262). -/
def headerBits (mode : BitVec 4) (eci : Bool) (count v : Nat) : List Bool :=
  (if eci then putBits eciIndicator 4 ++ putBits eciDesignator 8 else []) ++
    putBits mode.toNat 4 ++ putBits count (ccwRom (Mode.ofIndicator mode) v)

/-- The digit value of a byte (R263): `b - 0x30`. -/
def digitValue (b : Byte) : Nat :=
  if 0x30 ≤ b.toNat then b.toNat - 0x30 else Config.freeDigit b

/-- Numeric payload bits (R263): groups of 3 digits, the last one shorter. -/
def numericBits : List Byte → List Bool
  | a :: b :: c :: rest =>
    putBits (100 * digitValue a + 10 * digitValue b + digitValue c) 10 ++ numericBits rest
  | [a, b] => putBits (10 * digitValue a + digitValue b) 7
  | [a] => putBits (digitValue a) 4
  | [] => []

/-- The ALNUM value of a byte (R264). -/
def alnumValue (b : Byte) : Nat := (alnumRom b).getD (Config.freeAlnum b)

/-- Alphanumeric payload bits (R264): pairs, the last one single. -/
def alnumBits : List Byte → List Bool
  | a :: b :: rest => putBits (45 * alnumValue a + alnumValue b) 11 ++ alnumBits rest
  | [a] => putBits (alnumValue a) 6
  | [] => []

/-- Byte payload bits (R265). -/
def byteBits (p : List Byte) : List Bool := p.flatMap (fun b => putBits b.toNat 8)

/-- The payload bits of a mode (R263-R265). -/
def payloadBitString (m : Mode) (p : List Byte) : List Bool :=
  match m with
  | .numeric => numericBits p
  | .alphanumeric => alnumBits p
  | .byte => byteBits p

/-- `n` pad codewords, 0xEC and 0x11 in turn (R266). -/
def padCodewords : Nat → List Bool
  | 0 => []
  | 1 => putBits 0xEC 8
  | n + 2 => putBits 0xEC 8 ++ putBits 0x11 8 ++ padCodewords n

/-- The terminator (R266): up to 4 zero bits. -/
def terminatorBits (len cap : Nat) : List Bool := List.replicate (min 4 (cap - len)) false

/-- The zero bits up to the byte boundary (R266). -/
def boundaryBits (len : Nat) : List Bool := List.replicate ((8 - len % 8) % 8) false

/-- Terminator and padding (R266) after a stream. -/
def padStream (bits : List Bool) (cap : Nat) : List Bool :=
  let t := bits ++ terminatorBits bits.length cap
  let u := t ++ boundaryBits t.length
  u ++ padCodewords ((cap - u.length) / 8)

/-- The byte of eight bits, the first one bit 7 (R267). -/
def byteOfBits (bs : List Bool) : Byte :=
  BitVec.ofNat 8 (bs.foldl (fun n b => 2 * n + b.toNat) 0)

/-- Packs the first 8·d bits into d bytes (R267). -/
def packBits : Nat → List Bool → List Byte
  | 0, _ => []
  | d + 1, bs => byteOfBits (bs.take 8) :: packBits d (bs.drop 8)

/-- The bit stream of a payload before its padding (R262-R265). -/
def unpaddedStream (s : State) (p : List Byte) : List Bool :=
  headerBits s.arMode.mode s.arMode.eci s.arCount.toNat s.version ++
    payloadBitString (Mode.ofIndicator s.arMode.mode) p

/-- The data codewords of payload `p` (R262-R267). The capacity is the ROM's, which
CAP_BITS holds (log entry 12). -/
def dataCodewords (s : State) (p : List Byte) : List Byte :=
  let d := dataBytes (blockRom s.version s.config.ecl)
  packBits d (padStream (unpaddedStream s p) (8 * d))

/-- The writes of ENCODE_DATA (R260) for payload `p`, its stage included. -/
def encodeData (p : List Byte) (s : State) : State :=
  let dcw := dataCodewords s p
  { (s.writeBuf .dcw dcw).setStage .encoded with dcwLen := BitVec.ofNat 12 dcw.length }

/-- ENCODE_DATA (R260). -/
def execEncodeData (s : State) : Host.Outcome State Fault Refusal :=
  runCommand .encodeData (inStage .analyzed (fun s => (encodeData s.payload s).drawn)) s

end Sys2Proof.Machine
end

