-- ==== Sys2Proof/Machine/Matrix.lean ====
section
/-! DEFINITION. The matrix assembly engine, geometry and placement phases
(46_matrix.md), and the commands MX_GEOMETRY and MX_PLACE (R300, R320). -/

namespace Sys2Proof.Machine

/-! ## Geometry -/

/-- One `fset(r, c, d)` of 46_matrix.md. -/
structure FSet where
  row : Nat
  col : Nat
  dark : Bool
  deriving DecidableEq, Repr

/-- `X[r][c] <- (DARK if d else LIGHT, func = true)`. -/
def Grid.fset (g : Grid) (w : FSet) : Grid :=
  g.set w.row w.col { state := ModState.ofDark w.dark, func := true }

/-- The finder pattern with top-left corner (R, C) (R302). -/
def finderAt (R C : Nat) : List FSet :=
  (List.range 7).flatMap fun i => (List.range 7).map fun j =>
    ⟨R + i, C + j, i == 0 || i == 6 || j == 0 || j == 6 ||
      (2 ≤ i && i ≤ 4 && 2 ≤ j && j ≤ 4)⟩

/-- The three finder patterns (R302). -/
def finders (n : Nat) : List FSet := finderAt 0 0 ++ finderAt 0 (n - 7) ++ finderAt (n - 7) 0

/-- The separators (R303). -/
def separators (n : Nat) : List FSet :=
  (List.range 8).flatMap fun i =>
    [⟨7, i, false⟩, ⟨i, 7, false⟩, ⟨7, n - 1 - i, false⟩, ⟨i, n - 8, false⟩,
     ⟨n - 8, i, false⟩, ⟨n - 1 - i, 7, false⟩]

/-- The timing patterns (R304), k in 8..n-9. -/
def timing (n : Nat) : List FSet :=
  (List.range' 8 (n - 16)).flatMap fun k => [⟨6, k, k % 2 == 0⟩, ⟨k, 6, k % 2 == 0⟩]

/-- Whether the alignment pattern centred at (r, c) overlaps a finder's corner
zone (R305). -/
def overlapsFinder (n r c : Nat) : Bool :=
  (r - 2 ≤ 7 && c - 2 ≤ 7) || (r - 2 ≤ 7 && n - 8 ≤ c + 2) || (n - 8 ≤ r + 2 && c - 2 ≤ 7)

/-- The alignment pattern centred at (r, c) (R305). -/
def alignmentAt (r c : Nat) : List FSet :=
  (List.range 5).flatMap fun i => (List.range 5).map fun j =>
    ⟨r - 2 + i, c - 2 + j, max (natDist i 2) (natDist j 2) != 1⟩

/-- The alignment patterns (R305). -/
def alignments (v n : Nat) : List FSet :=
  (alignRom v).flatMap fun r => (alignRom v).flatMap fun c =>
    if overlapsFinder n r c then [] else alignmentAt r c

/-- The dark module (R306). -/
def darkModule (v : Nat) : List FSet := [⟨4 * v + 9, 8, true⟩]

/-- Copy 1 of the format cells, for bits 14 down to 0 (R310). -/
def formatCopy1 : List (Nat × Nat) :=
  [(8, 0), (8, 1), (8, 2), (8, 3), (8, 4), (8, 5), (8, 7), (8, 8), (7, 8), (5, 8), (4, 8),
   (3, 8), (2, 8), (1, 8), (0, 8)]

/-- Copy 2 of the format cells, for bits 14 down to 0 (R310). -/
def formatCopy2 (n : Nat) : List (Nat × Nat) :=
  [(n - 1, 8), (n - 2, 8), (n - 3, 8), (n - 4, 8), (n - 5, 8), (n - 6, 8), (n - 7, 8),
   (8, n - 8), (8, n - 7), (8, n - 6), (8, n - 5), (8, n - 4), (8, n - 3), (8, n - 2),
   (8, n - 1)]

/-- The format bits, in the order of the two copies. -/
def formatBitOrder : List Nat := [14, 13, 12, 11, 10, 9, 8, 7, 6, 5, 4, 3, 2, 1, 0]

/-- Writes a 15-bit format value into both copies (R310, R365). -/
def formatWrites (n fmt : Nat) : List FSet :=
  (formatBitOrder.zip formatCopy1 ++ formatBitOrder.zip (formatCopy2 n)).map
    fun x => ⟨x.2.1, x.2.2, fmt.testBit x.1⟩

/-- Writes an 18-bit version value into both blocks (R311, R366). -/
def versionWrites (n ver : Nat) : List FSet :=
  (List.range 18).flatMap fun i =>
    [⟨i / 3, n - 11 + i % 3, ver.testBit i⟩, ⟨n - 11 + i % 3, i / 3, ver.testBit i⟩]

/-- Every write of the geometry phase, in the order of R302-R308: the format and
version cells are reserved light (R307, R308). -/
def geometryWrites (v : Nat) : List FSet :=
  let n := sideOf v
  finders n ++ separators n ++ timing n ++ alignments v n ++ darkModule v ++
    formatWrites n 0 ++ (if 7 ≤ v then versionWrites n 0 else [])

/-- The geometry phase's grid for version v (R301-R308). -/
def geometryGrid (v : Nat) : Grid :=
  (geometryWrites v).foldl Grid.fset (Grid.blank (sideOf v))

/-- The writes of MX_GEOMETRY (R300, R301), MXN and its stage included. -/
def buildGeometry (s : State) : State :=
  ({ s with mem := Memory.clearMatrix s.mem, mxn := sideOf s.version }.writeGrid
    (geometryGrid s.version)).setStage .geometry

/-- MX_GEOMETRY (R300). -/
def execMxGeometry (s : State) : Host.Outcome State Fault Refusal :=
  runCommand .mxGeometry (inStage .interleaved buildGeometry) s

/-! ## Placement -/

/-- The right columns of the strips (R321), from `right` on: column 6 is
skipped. -/
def stripRights : Nat → Nat → List Nat
  | 0, _ => []
  | fuel + 1, right =>
    if right = 0 then []
    else
      let r := if right = 6 then 5 else right
      r :: stripRights fuel (r - 2)

/-- The cells of one strip (R321): upward or downward, the right column first. -/
def stripCells (n right : Nat) (upward : Bool) : List (Nat × Nat) :=
  (List.range n).flatMap fun t =>
    let r := if upward then n - 1 - t else t
    [(r, right), (r, right - 1)]

/-- `order()` (R321). -/
def placementOrder (n : Nat) : List (Nat × Nat) :=
  (stripRights n (n - 1)).zipIdx.flatMap fun x => stripCells n x.1 (x.2 % 2 == 0)

/-- The bit stream (R285): the codewords, most significant bit first, then zero
bits up to S. -/
def streamOf (f : List Byte) (S : Nat) : List Bool :=
  (byteBits f ++ List.replicate (S - 8 * f.length) false).take S

/-- Whether the placer fills a cell (R322). -/
def MCell.isOpen (x : MCell) : Bool := !x.func && x.state == .unset

/-- Bit consumption (R322): each open cell takes the next bit, light when there
is none; the second component counts the cells filled. -/
def placeBits : List (Nat × Nat) → List Bool → Grid → Nat → Grid × Nat
  | [], _, g, k => (g, k)
  | (r, c) :: rest, bits, g, k =>
    if (g.get r c).isOpen then
      placeBits rest bits.tail
        (g.set r c { state := ModState.ofDark (bits.headD false), func := false }) (k + 1)
    else placeBits rest bits g k

/-- The writes of MX_PLACE (R320), its stage included. -/
def placeData (s : State) : State :=
  let n := sideOf s.version
  let S := s.streamBits.toNat
  let f := s.readBuf .final s.finalLen.toNat
  let r := placeBits (placementOrder n) (streamOf f S) (s.readGrid n) 0
  { (s.writeGrid r.1).setStage .placed with placedBits := BitVec.ofNat 16 (min r.2 S) }

/-- MX_PLACE (R320). -/
def execMxPlace (s : State) : Host.Outcome State Fault Refusal :=
  runCommand .mxPlace (inStage .geometry (fun s => (placeData s).drawn)) s

end Sys2Proof.Machine
end

