-- ==== Sys2Proof/Machine/Mask.lean ====
section
/-! DEFINITION. The mask evaluator (47_mask_checksum.md R341-R353): the eight
masks, the penalty scorecard, and the command MX_MASK (R340). -/

namespace Sys2Proof.Machine

/-! ## Masks -/

/-- Whether mask k holds at (r, c) (R341). -/
def maskHolds (k r c : Nat) : Bool :=
  match k with
  | 0 => (r + c) % 2 == 0
  | 1 => r % 2 == 0
  | 2 => c % 3 == 0
  | 3 => (r + c) % 3 == 0
  | 4 => (r / 2 + c / 3) % 2 == 0
  | 5 => (r * c) % 2 + (r * c) % 3 == 0
  | 6 => ((r * c) % 2 + (r * c) % 3) % 2 == 0
  | _ => ((r + c) % 2 + (r * c) % 3) % 2 == 0

/-- The colour of a cell under mask k (R342): a data cell flips where the mask
holds, a function cell never. -/
def maskedDark (k r c : Nat) (x : MCell) : Bool := xor x.isDark (!x.func && maskHolds k r c)

/-- Candidate k of a grid (R342), true = dark. -/
def candidate (k : Nat) (g : Grid) : List (List Bool) :=
  g.zipIdx.map fun row => row.1.zipIdx.map fun x => maskedDark k row.2 x.2 x.1

/-- The cell that mask k leaves (R340): `X[r][c].dark <- G_k[r][c]` for a data
cell, nothing for a function cell. An unset data cell would be resolved (log entry 14). -/
def maskCell (k r c : Nat) (x : MCell) : MCell :=
  if x.func then x else { state := ModState.ofDark (maskedDark k r c x), func := false }

/-- The grid with mask k applied (R340). -/
def applyMask (k : Nat) (g : Grid) : Grid :=
  g.zipIdx.map fun row => row.1.zipIdx.map fun x => maskCell k row.2 x.2 x.1

/-! ## Penalty scorecard -/

/-- The lines of an n×n grid: its rows, then its columns (section 2). -/
def gridLines (n : Nat) (g : List (List Bool)) : List (List Bool) :=
  g ++ (List.range n).map (fun c => g.map (fun row => row.getD c false))

/-- What a maximal run of length `len` adds (R345). -/
def runScore (len : Nat) : Nat := if 5 ≤ len then len - 2 else 0

/-- Rule 1 on the rest of a line, within a run of colour `cur` (R345). -/
def runPenaltyFrom (cur : Bool) (run : Nat) : List Bool → Nat
  | [] => runScore run
  | x :: xs =>
    if x = cur then runPenaltyFrom cur (run + 1) xs
    else runScore run + runPenaltyFrom x 1 xs

/-- Rule 1 on one line (R345). -/
def runPenalty : List Bool → Nat
  | [] => 0
  | x :: xs => runPenaltyFrom x 1 xs

/-- The uniform 2×2 blocks between two neighbouring rows (R346). -/
def uniformBlocks : List Bool → List Bool → Nat
  | a :: b :: r, x :: y :: s =>
    (if a = b ∧ a = x ∧ a = y then 1 else 0) + uniformBlocks (b :: r) (y :: s)
  | _, _ => 0

/-- Rule 2, without its factor (R346). -/
def blockCount : List (List Bool) → Nat
  | r :: s :: rows => uniformBlocks r s + blockCount (s :: rows)
  | _ => 0

/-- The number of windows of a line equal to a pattern (R347). -/
def countWindows (pattern : List Bool) : List Bool → Nat
  | [] => 0
  | x :: xs => (if pattern.isPrefixOf (x :: xs) then 1 else 0) + countWindows pattern xs

/-- The pattern A of R347. -/
def finderLikeA : List Bool :=
  [true, false, true, true, true, false, true, false, false, false, false]

/-- The pattern B of R347. -/
def finderLikeB : List Bool :=
  [false, false, false, false, true, false, true, true, true, false, true]

/-- Rule 3 on one line (R347). -/
def finderPenalty (l : List Bool) : Nat :=
  40 * countWindows finderLikeA l + 40 * countWindows finderLikeB l

/-- The number of dark cells of a grid. -/
def darkCount (g : List (List Bool)) : Nat := (g.map (fun row => row.count true)).sum

/-- Rule 4 as a function of the dark cells d and all cells t (R348, PEN4; log entry
16). -/
def proportionPenalty (d t : Nat) : Nat :=
  let q := (20 * d) / t
  10 * min (natDist q 10) (natDist q 9)

/-- The four penalties of a candidate (R345-R348). -/
structure Score where
  p1 : Nat
  p2 : Nat
  p3 : Nat
  p4 : Nat
  deriving DecidableEq, Repr

/-- The scorecard of an n×n candidate (R345-R348). -/
def scoreOf (n : Nat) (g : List (List Bool)) : Score :=
  { p1 := ((gridLines n g).map runPenalty).sum
    p2 := 3 * blockCount g
    p3 := ((gridLines n g).map finderPenalty).sum
    p4 := proportionPenalty (darkCount g) (n * n) }

/-- The total of a scorecard (R350). -/
def Score.total (p : Score) : Nat := p.p1 + p.p2 + p.p3 + p.p4

/-- The scan of R351 over the totals of masks 0..7: the lowest total, and among
equal ones the lowest mask. -/
def bestMask (totals : Vector Nat 8) : Fin 8 :=
  [1, 2, 3, 4, 5, 6, 7].foldl
    (fun best k => if totals[k] < totals[best] then k else best) (0 : Fin 8)

/-- A candidate's scorecard, and the pass in which the evaluator made it. -/
structure Scored where
  pass : Nat
  score : Score
  deriving DecidableEq, Repr

/-- The work of the evaluator (R352): `lanes` candidates at a time, in the order of
their masks. -/
def evaluate (lanes n : Nat) (g : Grid) : Vector Scored 8 :=
  Vector.ofFn fun k : Fin 8 => { pass := k.val / lanes, score := scoreOf n (candidate k g) }

/-- The scorecards of the eight candidates, whichever pass made them (R352). -/
def scoresOf (lanes n : Nat) (g : Grid) : Vector Score 8 := (evaluate lanes n g).map Scored.score

/-- The PEN_RULE row of a scorecard (R350). -/
def Score.row (p : Score) : Vector Word 4 :=
  #v[BitVec.ofNat 32 p.p1, BitVec.ofNat 32 p.p2, BitVec.ofNat 32 p.p3, BitVec.ofNat 32 p.p4]

/-- The writes of MX_MASK (R340), its stage included, by an evaluator that scores
`lanes` candidates at a time. -/
def maskMatrix (lanes : Nat) (s : State) : State :=
  let n := sideOf s.version
  let g := s.readGrid n
  let scores := scoresOf lanes n g
  let best := bestMask (scores.map Score.total)
  { (s.writeGrid (applyMask best g)).setStage .masked with
    penRule := scores.map Score.row
    penalty := scores.map (fun p => BitVec.ofNat 32 p.total)
    maskSel := BitVec.ofFin best }

/-- MX_MASK (R340). -/
def execMxMask (s : State) : Host.Outcome State Fault Refusal :=
  runCommand .mxMask (inStage .placed (maskMatrix Config.maskLanes)) s

end Sys2Proof.Machine
end

