-- ==== Sys2Proof/Machine/Checksum.lean ====
section
/-! DEFINITION. The checksum phase (47_mask_checksum.md R364-R367) and the
command MX_CHECKSUM (R364). -/

namespace Sys2Proof.Machine

/-- The writes of R365 and R366 for version v, format value `fmt` and version
value `ver`. -/
def checksumWrites (v fmt ver : Nat) : List FSet :=
  formatWrites (sideOf v) fmt ++ (if 7 ≤ v then versionWrites (sideOf v) ver else [])

/-- The writes of MX_CHECKSUM (R364), its stage included. -/
def writeChecksums (s : State) : State :=
  let v := s.version
  let fmt := formatInfo s.config.ecl s.maskSel.toNat
  let ver := versionInfo v
  { (s.writeGrid ((checksumWrites v fmt ver).foldl Grid.fset (s.readGrid (sideOf v)))).setStage
      .checksummed with
    formatBits := BitVec.ofNat 15 fmt
    versionBits := if 7 ≤ v then BitVec.ofNat 18 ver else 0 }

/-- MX_CHECKSUM (R364). -/
def execMxChecksum (s : State) : Host.Outcome State Fault Refusal :=
  runCommand .mxChecksum (inStage .masked writeChecksums) s

end Sys2Proof.Machine
end

