-- ==== Sys2Proof/Machine/Gf.lean ====
section
/-! DEFINITION. The GF(256) field-arithmetic unit (41_gf.md): its functions
(R170), and the commands GF_ADD, GF_MUL, GF_DIV, GF_POW, GF_EXP and GF_LOG
(R171-R176). -/

namespace Sys2Proof.Machine

/-- `gf_add` (R170), which is subtraction too. -/
def gfAdd (a b : Byte) : Byte := a ^^^ b

/-- `gf_mul`, the `⊗` of the spec (R170): the index is at most 508. -/
def gfMul (a b : Byte) : Byte :=
  if a = 0 ∨ b = 0 then 0 else expRom ((logRom a).toNat + (logRom b).toNat)

/-- `gf_div` (R170): the divisor is tested first. -/
def gfDiv (a b : Byte) : Except ErrCode Byte :=
  if b = 0 then .error .divideByZero
  else if a = 0 then .ok 0
  else .ok (expRom ((logRom a).toNat + 255 - (logRom b).toNat))

/-- `gf_pow` (R170): the exponent is an integer. -/
def gfPow (a : Byte) (e : Nat) : Byte :=
  if e = 0 then 1
  else if a = 0 then 0
  else expRom (((logRom a).toNat * e) % 255)

/-- `gf_log`, defined off 0 (R176). -/
def gfLog (a : Byte) : Except ErrCode Byte :=
  if a = 0 then .error .domain else .ok (logRom a)

/-- `R[RESULT] <- zext32(r)`, the only write of a GF command (R178). -/
def gfResult (r : Byte) (s : State) : State := s.setResult (r.setWidth 32)

/-- GF_ADD (R171). -/
def execGfAdd (s : State) : Host.Outcome State Fault Refusal :=
  runCommand .gfAdd (fun s => .ok (gfResult (gfAdd s.opA8 s.opB8) s)) s

/-- GF_MUL (R172). -/
def execGfMul (s : State) : Host.Outcome State Fault Refusal :=
  runCommand .gfMul (fun s => .ok (gfResult (gfMul s.opA8 s.opB8) s)) s

/-- GF_DIV (R173). -/
def execGfDiv (s : State) : Host.Outcome State Fault Refusal :=
  runCommand .gfDiv (fun s => (gfDiv s.opA8 s.opB8).map (fun r => gfResult r s)) s

/-- GF_POW (R174). -/
def execGfPow (s : State) : Host.Outcome State Fault Refusal :=
  runCommand .gfPow (fun s => .ok (gfResult (gfPow s.opA8 s.opB8.toNat) s)) s

/-- GF_EXP (R175). -/
def execGfExp (s : State) : Host.Outcome State Fault Refusal :=
  runCommand .gfExp (fun s => .ok (gfResult (expRom s.opA9.toNat) s)) s

/-- GF_LOG (R176). -/
def execGfLog (s : State) : Host.Outcome State Fault Refusal :=
  runCommand .gfLog (fun s => (gfLog s.opA8).map (fun r => gfResult r s)) s

end Sys2Proof.Machine
end

