-- ==== Sys2Proof/Machine/Rs.lean ====
section
/-! DEFINITION. The Reed-Solomon encoder (42_rs.md): polynomials as byte lists,
highest degree first (R207), and the commands RS_GENPOLY, RS_ENCODE,
RS_REMAINDER and RS_SYNDROME (R202-R205). -/

namespace Sys2Proof.Machine

/-- XORs `p` onto the first bytes of `r`. -/
def xorOnto : List Byte → List Byte → List Byte
  | r, [] => r
  | [], _ => []
  | x :: r, y :: p => (x ^^^ y) :: xorOnto r p

/-- One round of R201: `g` times the monomial `x - α^i`. -/
def genStep (g : List Byte) (i : Nat) : List Byte :=
  xorOnto (g ++ [0]) (0 :: g.map (fun c => gfMul c (expRom i)))

/-- The generator polynomial `gen_n`, n + 1 bytes (R201). -/
def genpoly (n : Nat) : List Byte := (List.range n).foldl genStep [1]

/-- One round of R208: the remainder register shifts, and the feedback byte
times the generator's tail is added. -/
def rsStep (g : List Byte) (rem : List Byte) (d : Byte) : List Byte :=
  let f := d ^^^ rem.headD 0
  xorOnto (rem.drop 1 ++ [0]) (g.tail.map (fun c => gfMul c f))

/-- `rs_ec(D, n)` (R208). -/
def rsEc (d : List Byte) (n : Nat) : List Byte :=
  d.foldl (rsStep (genpoly n)) (List.replicate n 0)

/-- The division loop of R204, `k` rounds: each cancels the leading byte with a
multiple of the monic generator, and the cancelled byte is dropped. -/
def polyReduce (g : List Byte) : Nat → List Byte → List Byte
  | 0, r => r
  | _ + 1, [] => []
  | k + 1, f :: r => polyReduce g k (xorOnto r (g.tail.map (fun c => gfMul c f)))

/-- C(x) mod g_n(x), n bytes (R204). -/
def rsRemainder (c : List Byte) (n : Nat) : List Byte :=
  if c.length < n then List.replicate (n - c.length) 0 ++ c
  else polyReduce (genpoly n) (c.length - n) c

/-- C(α^i) by Horner's rule (R205). -/
def hornerAt (i : Nat) (c : List Byte) : Byte :=
  c.foldl (fun s d => gfMul s (expRom i) ^^^ d) 0

/-- The n syndromes of C (R205). -/
def rsSyndromes (c : List Byte) (n : Nat) : List Byte :=
  (List.range n).map (fun i => hornerAt i c)

/-- The checks of R200, in their order. -/
def rsCheck (readsK : Bool) (s : State) : Except ErrCode Unit :=
  if s.rsN = 0 then .error .divideByZero
  else if Config.rsNMax < s.rsN then .error .badLength
  else if readsK && decide (Config.rsKMax < s.rsK) then .error .badLength
  else .ok ()

/-- The generator cache keeps `gen_n`, if it is not there and there is room (R60; log
entry 11). -/
def cacheGenerator (n : Nat) (cache : List GenEntry) : List GenEntry :=
  if cache.any (fun e => e.degree == n) then cache
  else if cache.length < Config.genCacheSize then { degree := n, poly := genpoly n } :: cache
  else cache

/-- A use of `gen_n`: the result is R201's in every case, the cache may now hold
it (R60). -/
def State.usesGenerator (n : Nat) (s : State) : State :=
  { s with genCache := cacheGenerator n s.genCache }

/-- The RSDATA bytes 0..K-1 that a command reads (R200). -/
def State.rsInput (s : State) : List Byte := s.readBuf .rsdata s.rsK

/-- RS_GENPOLY (R202). -/
def execRsGenpoly (s : State) : Host.Outcome State Fault Refusal :=
  runCommand .rsGenpoly (fun s => (rsCheck false s).map (fun _ =>
    ((s.writeBuf .gen (genpoly s.rsN)).setResult (BitVec.ofNat 32 (s.rsN + 1))).usesGenerator
      s.rsN)) s

/-- RS_ENCODE (R203). -/
def execRsEncode (s : State) : Host.Outcome State Fault Refusal :=
  runCommand .rsEncode (fun s => (rsCheck true s).map (fun _ =>
    (((s.writeBuf .rsout (rsEc s.rsInput s.rsN)).setResult
      (BitVec.ofNat 32 s.rsN)).usesGenerator s.rsN).drawn)) s

/-- RS_REMAINDER (R204). -/
def execRsRemainder (s : State) : Host.Outcome State Fault Refusal :=
  runCommand .rsRemainder (fun s => (rsCheck true s).map (fun _ =>
    let r := rsRemainder s.rsInput s.rsN
    (((s.writeBuf .rsout r).setResult (allZeroFlag r)).usesGenerator s.rsN).drawn)) s

/-- RS_SYNDROME (R205). It uses the roots of the generator, not its
coefficients. -/
def execRsSyndrome (s : State) : Host.Outcome State Fault Refusal :=
  runCommand .rsSyndrome (fun s => (rsCheck true s).map (fun _ =>
    let r := rsSyndromes s.rsInput s.rsN
    ((s.writeBuf .rsout r).setResult (allZeroFlag r)).drawn)) s

end Sys2Proof.Machine
end

