-- ==== Sys2Proof/Machine/Interleaver.lean ====
section
/-! DEFINITION. The block interleaver (45_interleave.md R281-R285) and the
command INTERLEAVE (R280). -/

namespace Sys2Proof.Machine

/-- Cuts `count` blocks of `size` bytes off the front. -/
def cutBlocks (size : Nat) : Nat → List Byte → List (List Byte)
  | 0, _ => []
  | count + 1, d => d.take size :: cutBlocks size count (d.drop size)

/-- The block split of R281: group 1 first, then group 2. -/
def splitBlocks (b : BlockEntry) (d : List Byte) : List (List Byte) :=
  cutBlocks b.data1 b.count1 d ++ cutBlocks b.data2 b.count2 (d.drop (b.count1 * b.data1))

/-- Column interleave of R283: an exhausted block contributes no byte. -/
def interleaveColumns (columns : Nat) (blocks : List (List Byte)) : List Byte :=
  (List.range columns).flatMap (fun col => blocks.filterMap (fun blk => blk[col]?))

/-- The final codewords of data codewords `d` (R281-R284). -/
def finalCodewords (b : BlockEntry) (d : List Byte) : List Byte :=
  let blocks := splitBlocks b d
  interleaveColumns (max b.data1 b.data2) blocks ++
    interleaveColumns b.ec (blocks.map (fun blk => rsEc blk b.ec))

/-- The writes of INTERLEAVE (R280), its stage included. The block structure is the
ROM row that BLK_G1 and BLK_G2 hold (log entry 12). -/
def interleave (s : State) : State :=
  let b := blockRom s.version s.config.ecl
  let f := finalCodewords b (s.readBuf .dcw (dataBytes b))
  { ((s.writeBuf .final f).usesGenerator b.ec).setStage .interleaved with
    finalLen := BitVec.ofNat 12 f.length
    streamBits := BitVec.ofNat 16 (8 * f.length + remRom s.version) }

/-- INTERLEAVE (R280). -/
def execInterleave (s : State) : Host.Outcome State Fault Refusal :=
  runCommand .interleave (inStage .encoded (fun s => (interleave s).drawn)) s

end Sys2Proof.Machine
end

