-- ==== Sys2Proof/Machine/Pipeline.lean ====
section
/-! DEFINITION. The pipeline sequencer and the system command
(48_pipeline_system.md): NOP (R390) and ENCODE_QR (R391). -/

namespace Sys2Proof.Machine

/-- NOP (R390): it completes, and nothing else. -/
def execNop (s : State) : Host.Outcome State Fault Refusal :=
  runCommand .nop (fun s => .ok s) s

/-- The stages of the pipeline after the analyzer, in their order (R391), on the
payload the analyzer read. -/
def pipelineTail (p : List Byte) (s : State) : State :=
  writeChecksums (maskMatrix Config.maskLanes
    (placeData (buildGeometry (interleave (encodeData p s)))))

/-- ENCODE_QR (R391): the analyzer, which alone can fail, then every other stage
with no check of STAGE between them. -/
def execEncodeQr (s : State) : Host.Outcome State Fault Refusal :=
  runCommand .encodeQr (fun s =>
    (selectVersion s).map (fun r => (pipelineTail r.1 (writeAnalysis r.2.1 r.2.2 s)).drawn)) s

end Sys2Proof.Machine
end

