-- ==== Sys2Proof/Machine/Dispatch.lean ====
section
/-! DEFINITION. One arm per command: execution to completion (R410). -/

namespace Sys2Proof.Machine

/-- The command `i` executed from the state at its issue to its completion. -/
def exec (i : Instr) (s : State) : Host.Outcome State Fault Refusal :=
  match i with
  | .nop => Sys2Proof.Machine.execNop s
  | .gfAdd => Sys2Proof.Machine.execGfAdd s
  | .gfMul => Sys2Proof.Machine.execGfMul s
  | .gfDiv => Sys2Proof.Machine.execGfDiv s
  | .gfPow => Sys2Proof.Machine.execGfPow s
  | .gfExp => Sys2Proof.Machine.execGfExp s
  | .gfLog => Sys2Proof.Machine.execGfLog s
  | .rsGenpoly => Sys2Proof.Machine.execRsGenpoly s
  | .rsEncode => Sys2Proof.Machine.execRsEncode s
  | .rsRemainder => Sys2Proof.Machine.execRsRemainder s
  | .rsSyndrome => Sys2Proof.Machine.execRsSyndrome s
  | .bchFormat => Sys2Proof.Machine.execBchFormat s
  | .bchVersion => Sys2Proof.Machine.execBchVersion s
  | .classify => Sys2Proof.Machine.execClassify s
  | .analyze => Sys2Proof.Machine.execAnalyze s
  | .encodeData => Sys2Proof.Machine.execEncodeData s
  | .interleave => Sys2Proof.Machine.execInterleave s
  | .mxGeometry => Sys2Proof.Machine.execMxGeometry s
  | .mxPlace => Sys2Proof.Machine.execMxPlace s
  | .mxMask => Sys2Proof.Machine.execMxMask s
  | .mxChecksum => Sys2Proof.Machine.execMxChecksum s
  | .encodeQr => Sys2Proof.Machine.execEncodeQr s

end Sys2Proof.Machine
end

