-- ==== Sys2Proof/Machine/Sequencer.lean ====
section
/-! DEFINITION. The core sequencer (00_scope.md R9): it runs the command that
CMD holds. -/

namespace Sys2Proof.Machine

/-- The command in progress runs to its completion (R410). A word that is no
command is never in progress (R415). If one were, it would complete as R410
step 1 says (log entry 15). -/
def State.runIssued (s : State) : Host.Outcome State Fault Refusal :=
  match decode s.cmd with
  | some i => exec i s
  | none => .next (s.rejectCommand s.cmd)

end Sys2Proof.Machine
end

