-- ==== Sys2Proof/Machine/Step.lean ====
section
/-! DEFINITION. One step of the machine: one clock cycle, in which either the
command in progress completes or the host acts (00_scope.md R9). -/

namespace Sys2Proof.Machine

/-- One step: the sequencer's command completes when its latency is over,
otherwise the cycle is the host's. A falling rst_n comes before both (R451). -/
def step (s : State) : Host.Outcome State Fault Refusal :=
  if s.coreTurn then s.runIssued else .next s.hostTurn

/-- `s` with the command word `w` issued and its latency over, so that the next
step runs it (log entry 5): what an accepted CMD write leaves (R140). A fall of rst_n
waiting first would abandon the command (R451) and is taken away. -/
def State.withFetchWord (s : State) (nbits w : Nat) : State :=
  { s with rstN := true, inbox := withoutReset s.inbox }.issue (tableWord nbits w) 0

end Sys2Proof.Machine
end

