-- ==== Sys2Proof/Reference.lean ====
section
/-! DEFINITION. What the statements are measured against: the spec's mathematics
written a second time, without the machine's tables and loops; only the coordinates
of R43, which no other rule determines, are the machine's `alignRom`. Field arithmetic
is polynomial arithmetic modulo 0x11D (41_gf.md R170), a code is a polynomial
with given roots (42_rs.md R201), a bit stream is a number made of fields, the
geometry is a function of a cell's position, and the placement order is a
closed formula. The machine uses nothing of this file. -/

namespace Sys2Proof.Reference

open Sys2Proof.Machine

/-! ## Codes that the host reads -/

/-- The value of an error code (60_exceptions.md R412). -/
def errCodeNumber : ErrCode → Nat
  | .none => 0
  | .payloadTooLarge => 1
  | .divideByZero => 2
  | .illegalOpcode => 3
  | .illegalConfig => 4
  | .phaseOrder => 5
  | .domain => 6
  | .badLength => 7

/-- The value of a stage (10_state.md R54). -/
def stageNumber : Stage → Nat
  | .idle => 0
  | .analyzed => 1
  | .encoded => 2
  | .interleaved => 3
  | .geometry => 4
  | .placed => 5
  | .masked => 6
  | .checksummed => 7

/-! ## GF(256) and polynomials over it -/

/-- α^i by repeated multiplication by α (R40, R170). -/
def alphaPow : Nat → Byte
  | 0 => 1
  | i + 1 => xtime (alphaPow i)

/-- a·x^k in GF(2)[x] / 0x11D. -/
def shiftMul (a : Byte) : Nat → Byte
  | 0 => a
  | k + 1 => xtime (shiftMul a k)

/-- The product of two elements as polynomials modulo 0x11D (R170): the sum of
a·x^k over the bits k of b. -/
def polyMul (a b : Byte) : Byte :=
  (List.range 8).foldl (fun acc k => acc ^^^ (if b.getLsbD k then shiftMul a k else 0)) 0

/-- The e-th power as an e-fold product; the empty product is 1. -/
def polyPow (a : Byte) : Nat → Byte
  | 0 => 1
  | e + 1 => polyMul a (polyPow a e)

/-- The value at x of the polynomial with these coefficients, highest degree
first (R207). -/
def evalPoly : List Byte → Byte → Byte
  | [], _ => 0
  | c :: cs, x => polyMul c (polyPow x cs.length) ^^^ evalPoly cs x

/-- The polynomial vanishes at α^0, ..., α^(n-1), the roots of g_n (R201). -/
def vanishesAtRoots (p : List Byte) (n : Nat) : Prop := ∀ i < n, evalPoly p (alphaPow i) = 0

/-! ## Polynomials over GF(2) -/

/-- The carry-less product of a and the low w bits of b. -/
def clMul (w a b : Nat) : Nat :=
  (List.range w).foldl (fun acc k => acc ^^^ (if b.testBit k then a <<< k else 0)) 0

/-- The 32 format values printed in 47_mask_checksum.md R360, levels L, M, Q, H. -/
def formatTable : List (List Nat) :=
  [[0x77C4, 0x72F3, 0x7DAA, 0x789D, 0x662F, 0x6318, 0x6C41, 0x6976],
   [0x5412, 0x5125, 0x5E7C, 0x5B4B, 0x45F9, 0x40CE, 0x4F97, 0x4AA0],
   [0x355F, 0x3068, 0x3F31, 0x3A06, 0x24B4, 0x2183, 0x2EDA, 0x2BED],
   [0x1689, 0x13BE, 0x1CE7, 0x19D0, 0x0762, 0x0255, 0x0D0C, 0x083B]]

/-- The printed format value of a level and a mask (R360). -/
def formatValue (ecl : BitVec 2) (mask : BitVec 3) : Nat :=
  (formatTable.getD ecl.toNat []).getD mask.toNat 0

/-- `ver` is the systematic BCH(18,6) codeword of v (R362): 18 bits, v on top,
and a multiple of the generator 1111100100101. -/
def isVersionInfo (v ver : Nat) : Prop :=
  ver < 2 ^ 18 ∧ ver / 2 ^ 12 = v ∧ ∃ q < 64, ver = clMul 6 0b1111100100101 q

/-! ## Text classes and bit fields -/

/-- The 45 characters of R47 in the order of their values. -/
def alphabet : List Byte :=
  [0x30, 0x31, 0x32, 0x33, 0x34, 0x35, 0x36, 0x37, 0x38, 0x39,
   0x41, 0x42, 0x43, 0x44, 0x45, 0x46, 0x47, 0x48, 0x49, 0x4A, 0x4B, 0x4C, 0x4D,
   0x4E, 0x4F, 0x50, 0x51, 0x52, 0x53, 0x54, 0x55, 0x56, 0x57, 0x58, 0x59, 0x5A,
   0x20, 0x24, 0x25, 0x2A, 0x2B, 0x2D, 0x2E, 0x2F, 0x3A]

/-- A numeric payload (R230). -/
abbrev isNumericText (p : List Byte) : Prop :=
  p ≠ [] ∧ ∀ b ∈ p, 0x30 ≤ b.toNat ∧ b.toNat ≤ 0x39

/-- A payload of alphabet characters (R231, before numeric takes precedence). -/
abbrev isAlnumText (p : List Byte) : Prop := p ≠ [] ∧ ∀ b ∈ p, b ∈ alphabet

/-- The mode of a payload (R230-R232). -/
def textMode (p : List Byte) : Mode :=
  if isNumericText p then .numeric else if isAlnumText p then .alphanumeric else .byte

/-- The mode indicator (R46). -/
def modeCode : Mode → Nat
  | .numeric => 1
  | .alphanumeric => 2
  | .byte => 4

/-- The ECI decision (R233). -/
def textEci (p : List Byte) : Bool := decide (textMode p = .byte ∧ ∃ b ∈ p, 0xC4 ≤ b.toNat)

/-- Payload data bits of n characters (R235). -/
def textBits (m : Mode) (n : Nat) : Nat :=
  match m with
  | .numeric => 10 * (n / 3) + (if n % 3 = 0 then 0 else if n % 3 = 1 then 4 else 7)
  | .alphanumeric => 11 * (n / 2) + 6 * (n % 2)
  | .byte => 8 * n

/-- The width of the character-count field at versions 1..9, 10..26 and 27..40
(R45). -/
def countWidth (m : Mode) (v : Nat) : Nat :=
  let band := if v < 10 then 0 else if v < 27 then 1 else 2
  (match m with
    | .numeric => [10, 12, 14]
    | .alphanumeric => [9, 11, 13]
    | .byte => [8, 16, 16]).getD band 0

/-- Required bits of a payload at version v (R242). -/
def bitsNeeded (p : List Byte) (v : Nat) : Nat :=
  (if textEci p then 12 else 0) + 4 + countWidth (textMode p) v + textBits (textMode p) p.length

/-- The first and the last version of a size band (R243); no version lies in the
range of the reserved band. -/
def bandRange (band : BitVec 2) : Nat × Nat := [(1, 9), (10, 26), (27, 40)].getD band.toNat (1, 0)

/-- A bit field: a value and its width. -/
abbrev Field := Nat × Nat

/-- The number that fields written one after the other make, first field on top. -/
def fieldsValue (fs : List Field) : Nat := fs.foldl (fun n f => n * 2 ^ f.2 + f.1) 0

/-- The bits that fields take. -/
def fieldsWidth (fs : List Field) : Nat := (fs.map Prod.snd).sum

/-- The number that bytes make, first byte on top. -/
def bytesValue (bs : List Byte) : Nat := bs.foldl (fun n b => 256 * n + b.toNat) 0

/-- The i-th group of k characters of a payload; the last one may be shorter. -/
def group (k : Nat) (p : List Byte) (i : Nat) : List Byte := (p.drop (k * i)).take k

/-- The decimal number of digits (R263). -/
def decimal (g : List Byte) : Nat := g.foldl (fun n b => 10 * n + (b.toNat - 0x30)) 0

/-- The base-45 number of alphabet characters (R264). -/
def base45 (g : List Byte) : Nat := g.foldl (fun n b => 45 * n + alphabet.idxOf b) 0

/-- The payload fields of a mode (R263-R265). -/
def payloadFields (m : Mode) (p : List Byte) : List Field :=
  match m with
  | .numeric => (List.range ((p.length + 2) / 3)).map fun i =>
      (decimal (group 3 p i), [0, 4, 7, 10].getD (group 3 p i).length 0)
  | .alphanumeric => (List.range ((p.length + 1) / 2)).map fun i =>
      (base45 (group 2 p i), [0, 6, 11].getD (group 2 p i).length 0)
  | .byte => p.map fun b => (b.toNat, 8)

/-- The header fields (R262). -/
def headerFields (m : Mode) (eci : Bool) (count v : Nat) : List Field :=
  (if eci then [(0b0111, 4), (26, 8)] else []) ++
    [(modeCode m, 4), (count, countWidth m v)]

/-- Terminator, byte padding and pad codewords after `len` bits (R266). -/
def padFields (len cap : Nat) : List Field :=
  let t := min 4 (cap - len)
  let z := (8 - (len + t) % 8) % 8
  [(0, t), (0, z)] ++ (List.range ((cap - len - t - z) / 8)).map fun k =>
    (if k % 2 = 0 then 0xEC else 0x11, 8)

/-- The whole stream of R262-R266. -/
def streamFields (m : Mode) (eci : Bool) (count v cap : Nat) (p : List Byte) : List Field :=
  let fs := headerFields m eci count v ++ payloadFields m p
  fs ++ padFields (fieldsWidth fs) cap

/-! ## Blocks -/

/-- The bytes of block k (R281). -/
def blockLen (b : BlockEntry) (k : Nat) : Nat := if k < b.count1 then b.data1 else b.data2

/-- Where block k starts in the data codewords (R281). -/
def blockStart (b : BlockEntry) (k : Nat) : Nat :=
  if k < b.count1 then k * b.data1 else b.count1 * b.data1 + (k - b.count1) * b.data2

/-- Where byte `col` of data block k stands in the final codewords (R283): the
columns that every block has come first, then the one that only group 2 has. -/
def dataPosition (b : BlockEntry) (k col : Nat) : Nat :=
  if col < b.data1 then col * (b.count1 + b.count2) + k
  else b.data1 * (b.count1 + b.count2) + (k - b.count1)

/-- Where byte `col` of EC block k stands in the final codewords (R284). -/
def ecPosition (b : BlockEntry) (k col : Nat) : Nat :=
  b.count1 * b.data1 + b.count2 * b.data2 + col * (b.count1 + b.count2) + k

/-! ## Geometry and placement -/

/-- A finder with its separator, as rings around its centre (3, 3) (R302, R303):
dark 3×3 centre, light ring, dark ring, light ring. -/
def finderDark (i j : Nat) : Bool :=
  let d := max (natDist i 3) (natDist j 3)
  d ≤ 1 || d == 3

/-- Whether two centre coordinates of version v carry an alignment pattern
(R305): every pair but the three at the finders. -/
def alignmentCentre (v r c : Nat) : Bool :=
  (alignRom v).contains r && (alignRom v).contains c &&
    !((r == 6 && c == 6) || (r == 6 && c == 4 * v + 10) || (r == 4 * v + 10 && c == 6))

/-- The offset of a coordinate from the alignment coordinate that covers it. -/
def alignmentCover (v x : Nat) : Option Nat := (alignRom v).find? fun a => natDist x a ≤ 2

/-- The colour of cell (r, c) after the geometry phase (R301-R308) if it is a
function cell, none if it is a data cell. -/
def geometryColour (v r c : Nat) : Option Bool :=
  let n := 4 * v + 17
  if r < 8 ∧ c < 8 then some (finderDark r c)
  else if r < 8 ∧ n ≤ c + 8 then some (finderDark r (n - 1 - c))
  else if n ≤ r + 8 ∧ c < 8 then some (finderDark (n - 1 - r) c)
  else
    let cover := match alignmentCover v r, alignmentCover v c with
      | some a, some b =>
        if alignmentCentre v a b then some (max (natDist r a) (natDist c b) != 1) else none
      | _, _ => none
    match cover with
    | some d => some d
    | none =>
      if r = 6 ∨ c = 6 then some ((r + c) % 2 == 0)
      else if r + 8 = n ∧ c = 8 then some true
      else if (r = 8 ∧ (c ≤ 8 ∨ n ≤ c + 8)) ∨ (c = 8 ∧ (r ≤ 8 ∨ n ≤ r + 8)) then some false
      else if 7 ≤ v ∧ ((r < 6 ∧ n ≤ c + 11) ∨ (n ≤ r + 11 ∧ c < 6)) then some false
      else none

/-- The cell that is visited p-th in the n×n grid (R321): 2n visits a strip, the
strips two columns wide from the right, column 6 left out. -/
def visitCell (n p : Nat) : Nat × Nat :=
  let strip := p / (2 * n)
  let right := if 2 * strip + 7 < n then n - 1 - 2 * strip else n - 2 - 2 * strip
  let t := p % (2 * n) / 2
  (if strip % 2 = 0 then n - 1 - t else t, right - p % 2)

/-- The number of visits of the n×n grid: every cell outside column 6. -/
def visits (n : Nat) : Nat := n * (n - 1)

/-- The cell of format bit b in copy 1 (R310). -/
def formatCell1 (b : Nat) : Nat × Nat :=
  if b = 8 then (8, 7) else if b = 7 then (8, 8) else if b = 6 then (7, 8)
  else if 9 ≤ b then (8, 14 - b) else (b, 8)

/-- The cell of format bit b in copy 2 of the n×n grid (R310). -/
def formatCell2 (n b : Nat) : Nat × Nat := if 8 ≤ b then (n + b - 15, 8) else (8, n - 1 - b)

/-- The cell of version bit i in the top-right block (R311); the bottom-left block
is its transpose. -/
def versionCell (n i : Nat) : Nat × Nat := (i / 3, n - 11 + i % 3)

/-- The eight mask predicates (R341). -/
def maskPredicate (k r c : Nat) : Bool :=
  [decide (2 ∣ r + c), decide (2 ∣ r), decide (3 ∣ c), decide (3 ∣ r + c),
    decide (2 ∣ r / 2 + c / 3), decide (6 ∣ r * c),
    decide (2 ∣ r * c % 2 + r * c % 3), decide (2 ∣ (r + c) % 2 + r * c % 3)].getD k false

/-! ## Penalties of a grid given as a function of row and column -/

/-- Rule 1 on the line l of n cells (R345), by windows: every window of five
equal cells adds 1, and 2 more where its run starts. A run of len ≥ 5 so adds
len - 4 + 2 = len - 2. -/
def runScoreOf (n : Nat) (l : Nat → Bool) : Nat :=
  ((List.range n).map fun i =>
    if i + 5 ≤ n ∧ l (i + 1) = l i ∧ l (i + 2) = l i ∧ l (i + 3) = l i ∧ l (i + 4) = l i then
      if i = 0 ∨ l (i - 1) ≠ l i then 3 else 1
    else 0).sum

/-- Rule 3 on the line l of n cells (R347). -/
def finderScoreOf (n : Nat) (l : Nat → Bool) : Nat :=
  ((List.range n).map fun i =>
    if i + 11 ≤ n then
      let window := (List.range 11).map fun j => l (i + j)
      (if window = [true, false, true, true, true, false, true, false, false, false, false]
        then 40 else 0) +
      (if window = [false, false, false, false, true, false, true, true, true, false, true]
        then 40 else 0)
    else 0).sum

/-- A line score over all rows and all columns. -/
def overLines (n : Nat) (score : (Nat → Bool) → Nat) (g : Nat → Nat → Bool) : Nat :=
  ((List.range n).map fun r => score (g r)).sum +
    ((List.range n).map fun c => score fun r => g r c).sum

/-- Rule 2 (R346). -/
def blockScoreOf (n : Nat) (g : Nat → Nat → Bool) : Nat :=
  ((List.range (n - 1)).map fun r => ((List.range (n - 1)).map fun c =>
    if g r (c + 1) = g r c ∧ g (r + 1) c = g r c ∧ g (r + 1) (c + 1) = g r c
    then 3 else 0).sum).sum

/-- The number of dark cells. -/
def darkCells (n : Nat) (g : Nat → Nat → Bool) : Nat :=
  ((List.range n).map fun r => ((List.range n).map fun c => if g r c then 1 else 0).sum).sum

/-- Rule 4 (R348). -/
def proportionScoreOf (n : Nat) (g : Nat → Nat → Bool) : Nat :=
  10 * min (natDist (20 * darkCells n g / n ^ 2) 10) (natDist (20 * darkCells n g / n ^ 2) 9)

/-- The penalty of rule j + 1 (R345-R348). -/
def ruleScore (n : Nat) (g : Nat → Nat → Bool) : Nat → Nat
  | 0 => overLines n (runScoreOf n) g
  | 1 => blockScoreOf n g
  | 2 => overLines n (finderScoreOf n) g
  | _ => proportionScoreOf n g

/-- The total penalty (R350). -/
def totalScore (n : Nat) (g : Nat → Nat → Bool) : Nat :=
  ((List.range 4).map (ruleScore n g)).sum

end Sys2Proof.Reference
end

