-- ==== Sys2Proof/Safety.lean ====
section
/-! DEFINITION. What the statements are about: the outcomes of a command, what a
store leaves alone, the errors and stage moves that the spec's tables allow, and
the invariants of the core. -/

namespace Sys2Proof.Safety

open Sys2Proof.Machine

/-! ## Outcomes of a command -/

/-- STATUS after a command that succeeded and does not move STAGE (60_exceptions.md
R410 step 3). -/
def doneStatus (s : State) : Status := { s.status with busy := false, done := true }

/-- STATUS after a command that succeeded and moved STAGE to `g`. -/
def stagedStatus (g : Stage) (s : State) : Status := { doneStatus s with stage := g }

/-- The state after command `i` ended in error `e` (R411, 10_state.md R36): only
STATUS and ERRINFO differ, and STAGE is `after`. The model's own counter of log
entry 2 advances for the commands that may have read the payload. -/
def errorState (i : Instr) (e : ErrCode) (after : Stage) (s : State) : State :=
  { s with
    status := { busy := false, done := true, err := true, errSticky := true, errCode := e
                stage := after }
    errInfo := { opcode := opcode i, ecl := s.config.ecl, band := s.config.band
                 stage := s.status.stage }
    draws := if readsBeforeError i then s.draws + 1 else s.draws }

/-- The errors each command can raise (R413). -/
def possibleErrors : Instr → List ErrCode
  | .nop | .gfAdd | .gfMul | .gfPow | .gfExp | .bchFormat | .bchVersion => []
  | .gfDiv => [.divideByZero]
  | .gfLog => [.domain]
  | .rsGenpoly | .rsEncode | .rsRemainder | .rsSyndrome => [.divideByZero, .badLength]
  | .classify => [.payloadTooLarge]
  | .analyze | .encodeQr => [.illegalConfig, .payloadTooLarge]
  | .encodeData | .interleave | .mxGeometry | .mxPlace | .mxMask | .mxChecksum => [.phaseOrder]

/-- The stage a single-stage command requires, and the one it leads to
(48_pipeline_system.md R395). -/
def singleStage : Instr → Option (Stage × Stage)
  | .encodeData => some (.analyzed, .encoded)
  | .interleave => some (.encoded, .interleaved)
  | .mxGeometry => some (.interleaved, .geometry)
  | .mxPlace => some (.geometry, .placed)
  | .mxMask => some (.placed, .masked)
  | .mxChecksum => some (.masked, .checksummed)
  | _ => none

/-- STAGE after a command that started in stage `g` (R395). -/
def stageAfter (i : Instr) (ok : Bool) (g : Stage) : Stage :=
  match i, singleStage i with
  | _, some (_, after) => if ok then after else g
  | .analyze, none => if ok then .analyzed else .idle
  | .encodeQr, none => if ok then .checksummed else .idle
  | _, none => g

/-! ## The host's cycle -/

/-- The machine is idle and out of reset, and the host's next event is `e`. -/
abbrev idleWith (s : State) (e : HostEvent) (rest : List HostEvent) : Prop :=
  s.rstN = true ∧ s.status.busy = false ∧ s.inbox = e :: rest

/-- A command is in progress and does not complete in this cycle, and the host's
next event is `e`. -/
abbrev busyWith (s : State) (e : HostEvent) (rest : List HostEvent) : Prop :=
  s.rstN = true ∧ s.status.busy = true ∧ s.wait ≠ 0 ∧ s.inbox = e :: rest

/-- The state after the host's next event was answered with `r` and nothing else
happened; `rest` is what the host does later. -/
def answered (s : State) (rest : List HostEvent) (r : Response) : State :=
  { s with inbox := rest, outbox := r :: s.outbox }

/-! ## Memory -/

/-- `m'` holds `bytes` from offset `base` on, and at every other offset what `m`
holds (10_state.md R50). -/
def StoresExactly (m m' : Memory) (base : Nat) (bytes : List Byte) : Prop :=
  ∀ a, Memory.get? m' a =
    if base ≤ a ∧ a < base + bytes.length then bytes[a - base]? else Memory.get? m a

/-- The matrix slots of the n×n grid hold `cell`, and every other offset holds
what `m` holds (R53). -/
def StoresGrid (m m' : Memory) (n : Nat) (cell : Nat → Nat → MCell) : Prop :=
  (∀ r < n, ∀ c < n, Memory.get? m' (0x10000 + 256 * r + c) = some (cell r c).toByte) ∧
  ∀ a, (∀ r < n, ∀ c < n, a ≠ 0x10000 + 256 * r + c) → Memory.get? m' a = Memory.get? m a

/-- The byte that the command started in `s` reads at offset `a`. -/
def byteAt (s : State) (a : Nat) : Byte := Memory.read s.mem s.draws a

/-- The first `n` bytes from offset `base` on, as the command started in `s` reads
them. -/
def bytesAt (s : State) (base n : Nat) : List Byte :=
  (List.range n).map fun i => byteAt s (base + i)

/-- The payload `P` of 43_analyzer.md: PAYLOAD bytes 0..LEN-1. -/
def payloadOf (s : State) : List Byte := bytesAt s 0x02000 s.payloadLen.toNat

/-- RSDATA bytes 0..K-1 (42_rs.md R200). -/
def rsDataOf (s : State) : List Byte := bytesAt s 0x01000 s.rsCfg.k.toNat

/-- The matrix cell (r, c) (R53). -/
def cellAt (s : State) (r c : Nat) : MCell := MCell.ofByte (byteAt s (0x10000 + 256 * r + c))

/-- The cell that the geometry phase leaves at (r, c) of version v (46_matrix.md
R302-R308): a function module in its colour, or nothing yet. -/
def geometryCell (v r c : Nat) : MCell :=
  match Reference.geometryColour v r c with
  | some true => { state := .dark, func := true }
  | some false => { state := .light, func := true }
  | none => { state := .unset, func := false }

/-- Every payload byte that the analyzer reads has been written. -/
def payloadWritten (s : State) : Prop :=
  ∀ i < s.payloadLen.toNat, Memory.get? s.mem (0x02000 + i) ≠ none

/-- The offsets that the address map leaves unmapped (20_memory.md R113) and the
register offsets that R31 does not list. -/
def unmapped (a : Nat) : Prop :=
  (0x00200 ≤ a ∧ a < 0x01000) ∨ (0x01120 ≤ a ∧ a < 0x01200) ∨ (0x01240 ≤ a ∧ a < 0x02000) ∨
    (0x06000 ≤ a ∧ a < 0x10000) ∨ 0x20000 ≤ a ∨
    a = 0x01C ∨ (0x030 ≤ a ∧ a < 0x040) ∨ (0x07C ≤ a ∧ a < 0x080) ∨
    (0x0A0 ≤ a ∧ a < 0x100) ∨ (0x180 ≤ a ∧ a < 0x200)

/-- The mapped locations that the host may only read (R106): the read-only
registers of R31 and the RSOUT, GEN, DCW, FINAL and matrix windows. -/
def readOnly (a : Nat) : Prop :=
  a = 0x000 ∨ a = 0x010 ∨ a = 0x028 ∨ (0x040 ≤ a ∧ a < 0x07C ∧ a % 4 = 0) ∨
    (0x080 ≤ a ∧ a < 0x0A0 ∧ a % 4 = 0) ∨ (0x100 ≤ a ∧ a < 0x180 ∧ a % 4 = 0) ∨
    (0x01100 ≤ a ∧ a < 0x01120) ∨ (0x01200 ≤ a ∧ a < 0x01240) ∨
    (0x04000 ≤ a ∧ a < 0x06000) ∨ (0x10000 ≤ a ∧ a < 0x20000)

/-- An access that no rule refuses for its form (R102, R104): aligned, and a whole
word in the register window. -/
abbrev goodForm (a : Nat) (size : AccessSize) : Prop :=
  a % size.bytes = 0 ∧ (a < 0x00200 → size = .four)

/-! ## The analyzer's choice -/

/-- Version v holds payload p (43_analyzer.md R242, R243, R244): it lies in the
range of CONFIG.BAND, is no smaller than MINVER, and its capacity at CONFIG.ECL is
enough. -/
abbrev versionFits (s : State) (p : List Byte) (v : Nat) : Prop :=
  (Reference.bandRange s.config.band).1 ≤ v ∧ v ≤ (Reference.bandRange s.config.band).2 ∧
    s.config.minver.toNat ≤ v ∧
    Reference.bitsNeeded p v ≤ 8 * dataBytes (blockRom v s.config.ecl)

/-- v is the version that ANALYZE selects: the least one that fits (R244). -/
abbrev versionSelected (s : State) (p : List Byte) (v : Nat) : Prop :=
  versionFits s p v ∧ ∀ u < v, ¬ versionFits s p u

/-! ## Errors of the commands' rules -/

/-- The checks of RS command `i` in their order (42_rs.md R200): N = 0, then N > 32,
then, where K is read, K > 256. Nothing but STATUS and ERRINFO is written. -/
def rsErrors (i : Instr) (readsK : Bool) : Prop :=
  ∀ s : State,
    (s.rsCfg.n = 0 → exec i s = .next (errorState i .divideByZero s.status.stage s)) ∧
    (32 < s.rsCfg.n.toNat → exec i s = .next (errorState i .badLength s.status.stage s)) ∧
    (readsK = true → s.rsCfg.n ≠ 0 → 256 < s.rsCfg.k.toNat →
      exec i s = .next (errorState i .badLength s.status.stage s))

/-- Single-stage command `i` ends in PHASE_ORDER, STAGE unchanged and nothing else
done, in every stage but `g` (48_pipeline_system.md R395). -/
def phaseErrors (i : Instr) (g : Stage) : Prop :=
  ∀ s : State, s.status.stage ≠ g →
    exec i s = .next (errorState i .phaseOrder s.status.stage s)

/-- The errors of the analyzer part of command `i`, in their order (43_analyzer.md
R240, R241, R244): BAND = 3, then LEN > 8192, then no version that fits. Each sends
STAGE to IDLE and writes nothing else but STATUS and ERRINFO (the counter of log
entry 2 apart). -/
def analyzerErrors (i : Instr) : Prop :=
  ∀ s : State,
    (s.config.band = 3 → exec i s = .next (errorState i .illegalConfig .idle s)) ∧
    (s.config.band ≠ 3 →
      8192 < s.payloadLen.toNat ∨ (∀ v, ¬ versionFits s (payloadOf s) v) →
      exec i s = .next (errorState i .payloadTooLarge .idle s))

/-! ## Invariants -/

/-- What STATUS always satisfies (10_state.md R34, R54): while a command runs, CMD
holds a valid command word and DONE and ERR are 0; ERR and ERRCODE agree; no
latency is left when nothing runs; and STATUS is at its reset value while rst_n is
low (70_reset_and_hazards.md R451). -/
structure StatusInv (s : State) : Prop where
  busy_valid : s.status.busy = true → (decode s.cmd).isSome = true
  busy_done : s.status.busy = true → s.status.done = false
  busy_err : s.status.busy = true → s.status.err = false
  err_code : s.status.err = true ↔ s.status.errCode ≠ .none
  idle_wait : s.status.busy = false → s.wait = 0
  low_reset : s.rstN = false → s.status = State.reset.status

/-- The state in which a low rst_n holds the core (70_reset_and_hazards.md R450, R451):
the reset state, but for the port's own fields of log entries 1 and 2. -/
def heldInReset (s : State) : State :=
  { State.reset with
    rstN := false, latencies := s.latencies, inbox := s.inbox, outbox := s.outbox
    draws := s.draws }

/-- While rst_n is low the core is in the reset state (R451). -/
def ResetInv (s : State) : Prop := s.rstN = false → s = heldInReset s

/-- Memory is in its canonical form, and only buffer bytes (33 of GEN) and matrix
slots are ever stored (R50, R53). -/
structure MemInv (s : State) : Prop where
  wf : Memory.wf s.mem
  mapped : ∀ c ∈ s.mem,
    (0x01000 ≤ c.1 ∧ c.1 < 0x01120) ∨ (0x01200 ≤ c.1 ∧ c.1 < 0x01221) ∨
      (0x02000 ≤ c.1 ∧ c.1 < 0x06000) ∨ (0x10000 ≤ c.1 ∧ c.1 < 0x20000)

/-- The matrix memory (R53): MXN is 0 or the side of a version; a cell's byte is
one of the encodings of the table (DARK without SET never occurs, bits 7:3 are 0);
and slots outside MXN × MXN hold nothing. -/
structure MatrixInv (s : State) : Prop where
  side : s.mxn = 0 ∨ ∃ v, 1 ≤ v ∧ v ≤ 40 ∧ s.mxn = sideOf v
  cells : ∀ c ∈ s.mem, 0x10000 ≤ c.1 → c.2 = 2 ∨ c.2 = 3 ∨ c.2 = 6 ∨ c.2 = 7
  inside : s.mxn ≠ 0 → ∀ c ∈ s.mem, 0x10000 ≤ c.1 →
    (c.1 - 0x10000) / 256 < s.mxn ∧ (c.1 - 0x10000) % 256 < s.mxn

/-- The generator cache (R60): an entry is the polynomial of its degree, no degree
is kept twice, and there are at most GEN_CACHE entries. -/
structure CacheInv (s : State) : Prop where
  polys : ∀ e ∈ s.genCache, e.poly = genpoly e.degree
  degrees : s.genCache.Pairwise fun e f => e.degree ≠ f.degree
  size : s.genCache.length ≤ Config.genCacheSize

/-- What STAGE certifies (R54, 48_pipeline_system.md R394): each stage's results
are there and agree with the current configuration. -/
structure StageInv (s : State) : Prop where
  version : s.status.stage ≠ .idle → 1 ≤ s.version ∧ s.version ≤ 40
  side : s.status.stage ≠ .idle → s.arVersion.side.toNat = sideOf s.version
  limits : s.status.stage ≠ .idle →
    s.payloadLen.toNat ≤ 8192 ∧ s.config.band ≠ 3 ∧ s.arCount = s.payloadLen
  capacity : s.status.stage ≠ .idle →
    s.capBits.toNat = 8 * dataBytes (blockRom s.version s.config.ecl)
  blocks : s.status.stage ≠ .idle →
    s.blkG1.count.toNat = (blockRom s.version s.config.ecl).count1 ∧
    s.blkG1.data.toNat = (blockRom s.version s.config.ecl).data1 ∧
    s.blkG1.ec.toNat = (blockRom s.version s.config.ecl).ec ∧
    s.blkG2.count.toNat = (blockRom s.version s.config.ecl).count2 ∧
    s.blkG2.data.toNat = (blockRom s.version s.config.ecl).data2
  analysis : s.status.stage ≠ .idle → payloadWritten s →
    versionSelected s (payloadOf s) s.version ∧
    s.arMode.mode.toNat = Reference.modeCode (Reference.textMode (payloadOf s)) ∧
    s.arMode.eci = Reference.textEci (payloadOf s) ∧
    s.arReqbits.toNat = Reference.bitsNeeded (payloadOf s) s.version
  encoded : 2 ≤ s.status.stage.toNat →
    s.dcwLen.toNat = dataBytes (blockRom s.version s.config.ecl) ∧
    ∀ i < s.dcwLen.toNat, Memory.get? s.mem (0x04000 + i) ≠ none
  interleaved : 3 ≤ s.status.stage.toNat →
    s.finalLen.toNat = totalCodewords (blockRom s.version s.config.ecl) ∧
    s.streamBits.toNat = 8 * s.finalLen.toNat + remRom s.version ∧
    ∀ i < s.finalLen.toNat, Memory.get? s.mem (0x05000 + i) ≠ none
  matrix : 4 ≤ s.status.stage.toNat → s.mxn = sideOf s.version
  functions : 4 ≤ s.status.stage.toNat → ∀ r < s.mxn, ∀ c < s.mxn,
    (cellAt s r c).func = (Reference.geometryColour s.version r c).isSome
  geometry : s.status.stage = .geometry → ∀ r < s.mxn, ∀ c < s.mxn,
    cellAt s r c = geometryCell s.version r c
  resolved : 5 ≤ s.status.stage.toNat → ∀ r < s.mxn, ∀ c < s.mxn,
    (cellAt s r c).state ≠ .unset
  penalties : ∀ k : Fin 8,
    s.penalty[k] = s.penRule[k][0] + s.penRule[k][1] + s.penRule[k][2] + s.penRule[k][3]
  checksummed : s.status.stage = .checksummed →
    s.formatBits.toNat = formatInfo s.config.ecl s.maskSel.toNat

/-- The invariant of the core. -/
structure CoreInv (s : State) : Prop where
  status : StatusInv s
  reset : ResetInv s
  memory : MemInv s
  matrix : MatrixInv s
  cache : CacheInv s
  stage : StageInv s

/-- The same state but for the generator cache (R60). -/
def sameButCache (s t : State) : Prop := ({ s with genCache := [] } : State) = { t with genCache := [] }

end Sys2Proof.Safety
end

