-- ==== Sys2Proof/Certificates/Slice0/Obligations.lean ====
section
/-! DEFINITION. The statements for the provers. Each docstring names the rules of
spec/ that the statement formalises, and every choice of the model's own that it
rests on. -/

section

open Sys2Proof Sys2Proof.Machine Sys2Proof.Safety Sys2Proof.Reference

/-! ## Encoding (30_encoding.md) -/

/-- R141, R142, R145: the decoder reads a command exactly from its encoded word,
and from the four bytes of that word in bus order, handing back the rest. -/
def Obligations.DecodeReadsExactlyEncodedWords : Prop :=
  (∀ (w : Word) (i : Instr), decode w = some i ↔ w = encode i) ∧
  ∀ (bs rest : List Byte) (i : Instr),
    decodeBytes bs = some (i, rest) ↔ bs = encodeBytes i ++ rest

/-- R141, R144: a word is no command exactly if its bits [31:8] are not 0 or its
low byte is one of the reserved opcodes that R144 lists. -/
def Obligations.ReservedWordsAreNoCommands : Prop :=
  ∀ w : Word, decode w = none ↔
    (w.toNat / 256 ≠ 0 ∨
      (let op := w.toNat % 256
       (0x07 ≤ op ∧ op ≤ 0x0F) ∨ (0x14 ≤ op ∧ op ≤ 0x1F) ∨ (0x22 ≤ op ∧ op ≤ 0x2F) ∨
       (0x32 ≤ op ∧ op ≤ 0x37) ∨ (0x3A ≤ op ∧ op ≤ 0x3F) ∨ (0x44 ≤ op ∧ op ≤ 0x4E) ∨
       0x50 ≤ op))

/-- R142: the words of the opcode map decode to their commands. -/
def Obligations.OpcodeMapWordsDecode : Prop :=
  ∀ p ∈ ([(0x00000000, .nop), (0x00000001, .gfAdd), (0x00000002, .gfMul), (0x00000003, .gfDiv),
      (0x00000004, .gfPow), (0x00000005, .gfExp), (0x00000006, .gfLog), (0x00000010, .rsGenpoly),
      (0x00000011, .rsEncode), (0x00000012, .rsRemainder), (0x00000013, .rsSyndrome),
      (0x00000020, .bchFormat), (0x00000021, .bchVersion), (0x00000030, .classify),
      (0x00000031, .analyze), (0x00000038, .encodeData), (0x00000039, .interleave),
      (0x00000040, .mxGeometry), (0x00000041, .mxPlace), (0x00000042, .mxMask),
      (0x00000043, .mxChecksum), (0x0000004F, .encodeQr)] : List (Nat × Instr)),
    decode (BitVec.ofNat 32 p.1) = some p.2 ∧ decodeTableWord 32 p.1 = some p.2

/-! ## The step -/

/-- R410 with log entries 1 and 5: when a command is in progress, its latency is
over and rst_n does not fall in this cycle (R451), the step is the execution of the
command that CMD decodes to; and that is what a step does after `withFetchWord`
placed a command's word. -/
def Obligations.StepRunsTheDecodedCommand : Prop :=
  (∀ (s : State) (i : Instr), s.rstN = true → s.status.busy = true → s.wait = 0 →
    (∀ rest, s.inbox ≠ .rstN false :: rest) → decode s.cmd = some i → step s = exec i s) ∧
  ∀ (s : State) (i : Instr),
    step (s.withFetchWord 32 (encode i).toNat) =
      exec i { s with
        rstN := true, cmd := encode i, wait := 0, inbox := withoutReset s.inbox
        status := { s.status with busy := true, done := false, err := false, errCode := .none } }

/-- R100, R108: in any other cycle the host's next event happens. A read changes
nothing of the core, busy or not: besides the model's own fields (the events and
answers, the remaining latency, and the counter `draws`, log entries 1 and 2) every
field keeps its value. A cycle without an event changes only the remaining
latency. -/
def Obligations.ReadsHaveNoSideEffects : Prop :=
  ∀ (s : State) (rest : List HostEvent),
    ¬ (s.rstN = true ∧ s.status.busy = true ∧ s.wait = 0) →
    (∀ a size, s.inbox = .access (.read a size) :: rest → ∃ code rdata, step s = .next
      { s with wait := if s.status.busy then s.wait - 1 else s.wait, inbox := rest
               outbox := .read code rdata :: s.outbox, draws := s.draws + 1 }) ∧
    (s.inbox = .idle :: rest → step s = .next
      { s with wait := if s.status.busy then s.wait - 1 else s.wait, inbox := rest }) ∧
    (s.inbox = [] → step s = .next
      { s with wait := if s.status.busy then s.wait - 1 else s.wait })

/-- R410: every command completes, from every state, with or without an error: its
execution answers a state with BUSY = 0 and DONE = 1. And no step ever stops the
machine. -/
def Obligations.EveryCommandCompletes : Prop :=
  (∀ (i : Instr) (s : State), ∃ t, exec i s = .next t ∧
    t.status.busy = false ∧ t.status.done = true) ∧
  ∀ s : State, ∃ t, step s = .next t

/-- R465, R410: an issued command with `wait` cycles of latency left runs in the
cycle after them, and what it does depends on nothing of that latency: for a host
that waits, the run of wait + 1 steps is the execution of the command in the
state of its issue. -/
def Obligations.IssuedCommandRunsAfterItsLatency : Prop :=
  ∀ (s : State) (i : Instr), s.rstN = true → s.status.busy = true →
    decode s.cmd = some i → s.inbox = [] →
    Host.Core.run Sys2Proof.core (s.wait + 1) s = exec i { s with wait := 0 }

/-- R140: a valid word written to CMD while BUSY = 0 is answered OKAY, goes to CMD,
clears DONE, ERR and ERRCODE and sets BUSY; nothing else changes. The latency is
the next one of the model's list (log entry 1), and the answer is deduced (log
entry 17). -/
def Obligations.CommandWriteIssuesCommand : Prop :=
  ∀ (s : State) (w : Word) (i : Instr) (rest : List HostEvent),
    idleWith s (.access (.write 0x008 .four w)) rest → decode w = some i →
    step s = .next { answered s rest (.write .okay) with
      cmd := w
      status := { s.status with busy := true, done := false, err := false, errCode := .none }
      wait := s.latencies.headD 0
      latencies := s.latencies.tail }

/-- R415: a word that is no command, written to CMD while BUSY = 0, completes at
once with ILLEGAL_OPCODE: BUSY stays 0, STAGE is unchanged, and nothing else
changes but STATUS, CMD and ERRINFO. -/
def Obligations.IllegalWordCompletesAtOnce : Prop :=
  ∀ (s : State) (w : Word) (rest : List HostEvent),
    idleWith s (.access (.write 0x008 .four w)) rest → decode w = none →
    ∃ code, step s = .next { answered s rest (.write code) with
      cmd := w
      status := { busy := false, done := true, err := true, errSticky := true
                  errCode := .illegalOpcode, stage := s.status.stage }
      errInfo := { opcode := w.extractLsb' 0 8, ecl := s.config.ecl, band := s.config.band
                   stage := s.status.stage } }

/-! ## The bus (20_memory.md) -/

/-- R460, R110, R104: while BUSY = 1 every write but a word write to CTRL is answered
ERROR and does nothing, whatever its size and offset. -/
def Obligations.BusyRefusesWrites : Prop :=
  ∀ (s : State) (a : Offset) (size : AccessSize) (w : Word) (rest : List HostEvent),
    busyWith s (.access (.write a size w)) rest →
    (a ≠ 0x004 ∨ size ≠ .four) →
    step s = .next { answered s rest (.write .error) with wait := s.wait - 1 }

/-- R110: while BUSY = 1 a word read of ID, CTRL, CMD or STATUS returns its current
value, STATUS with bit 0 = 1 and its other fields at their bits (R31, R34, the codes of
R412 and R54), and every other read of a mapped location is answered OKAY with data that
nothing constrains. That a form error or an unmapped offset is answered ERROR then
as well is the model's choice (log entry 9). -/
def Obligations.BusyReadsShowControlRegisters : Prop :=
  ∀ (s : State) (a : Offset) (size : AccessSize) (rest : List HostEvent),
    busyWith s (.access (.read a size)) rest →
    ∃ code rdata, step s = .next { answered s rest (.read code rdata) with
        wait := s.wait - 1, draws := s.draws + 1 } ∧
      (goodForm a.toNat size → ¬ unmapped a.toNat → code = .okay) ∧
      (¬ goodForm a.toNat size ∨ unmapped a.toNat → code = .error ∧ rdata = 0) ∧
      (size = .four → a = 0x000 → rdata = 0x51524337) ∧
      (size = .four → a = 0x004 → rdata = if s.ctrlIE then 1 else 0) ∧
      (size = .four → a = 0x008 → rdata = s.cmd) ∧
      (size = .four → a = 0x00C → rdata = BitVec.ofNat 32
        (1 + 2 * s.status.done.toNat + 4 * s.status.err.toNat + 8 * s.status.errSticky.toNat +
          2 ^ 8 * errCodeNumber s.status.errCode + 2 ^ 16 * stageNumber s.status.stage))

/-- R102, R104, R107: while no command runs, with rst_n high or low, a misaligned
access, an access of size 1 or 2 to the register window and an access to an unmapped
offset are answered ERROR, with rdata = 0, and do nothing. -/
def Obligations.BadAccessesAreRefused : Prop :=
  ∀ (s : State) (a : Offset) (size : AccessSize) (w : Word) (rest : List HostEvent),
    s.status.busy = false →
    (a.toNat % size.bytes ≠ 0 ∨ (a.toNat < 0x200 ∧ size ≠ .four) ∨ unmapped a.toNat) →
    (s.inbox = .access (.write a size w) :: rest →
      step s = .next (answered s rest (.write .error))) ∧
    (s.inbox = .access (.read a size) :: rest →
      step s = .next { answered s rest (.read .error 0) with draws := s.draws + 1 })

/-- R106: a write to a read-only location is answered ERROR and ignored; a write to
STATUS is answered OKAY and clears DONE (bit 1) and ERRSTICKY (bit 3) where it
writes 1, and nothing else; a write to a register with reserved fields is answered
OKAY, and the register then reads as the written word with those bits 0. -/
def Obligations.WritesRespectAccessRights : Prop :=
  (∀ (s : State) (a : Offset) (size : AccessSize) (w : Word) (rest : List HostEvent),
    idleWith s (.access (.write a size w)) rest → goodForm a.toNat size → readOnly a.toNat →
    step s = .next (answered s rest (.write .error))) ∧
  (∀ (s : State) (w : Word) (rest : List HostEvent),
    idleWith s (.access (.write 0x00C .four w)) rest →
    step s = .next { answered s rest (.write .okay) with
      status := { s.status with
        done := if w.getLsbD 1 then false else s.status.done
        errSticky := if w.getLsbD 3 then false else s.status.errSticky } }) ∧
  (∀ (s : State) (w mask : Word) (a : Offset) (rest : List HostEvent),
    (a, mask) ∈ [((0x014 : Offset), (0x000003FF : Word)), (0x018, 0x0000FFFF),
      (0x020, 0xFFFFFFFF), (0x024, 0xFFFFFFFF), (0x02C, 0x00FF01FF)] →
    idleWith s (.access (.write a .four w)) (.access (.read a .four) :: rest) →
    ∃ t, Host.Core.run Sys2Proof.core 2 s = .next t ∧
      t.outbox = .read .okay (w &&& mask) :: .write .okay :: s.outbox) ∧
  (∀ (s : State) (w : Word) (rest : List HostEvent), w.getLsbD 1 = false →
    idleWith s (.access (.write 0x004 .four w)) (.access (.read 0x004 .four) :: rest) →
    ∃ t, Host.Core.run Sys2Proof.core 2 s = .next t ∧
      t.outbox = .read .okay (w &&& 1) :: .write .okay :: s.outbox)

/-- R31: what the host reads at the offset of each register, field by field, while
no command runs, error codes and stages as the numbers of R412 and R54; the bits of
no field read 0. The step that performs the read gives
that answer and changes nothing else (the counter of log entry 2 apart). -/
def Obligations.RegisterReadsShowTheirFields : Prop :=
  ∀ (s : State), s.rstN = true → s.status.busy = false →
  ∀ p ∈ ([(0x000, 0x51524337), (0x004, s.ctrlIE.toNat), (0x008, s.cmd.toNat),
      (0x00C, s.status.busy.toNat + 2 * s.status.done.toNat + 4 * s.status.err.toNat +
        8 * s.status.errSticky.toNat + 2 ^ 8 * errCodeNumber s.status.errCode +
        2 ^ 16 * stageNumber s.status.stage),
      (0x010, s.errInfo.opcode.toNat + 2 ^ 8 * s.errInfo.ecl.toNat +
        2 ^ 10 * s.errInfo.band.toNat + 2 ^ 20 * stageNumber s.errInfo.stage),
      (0x014, s.config.ecl.toNat + 4 * s.config.band.toNat + 16 * s.config.minver.toNat),
      (0x018, s.payloadLen.toNat), (0x020, s.opa.toNat), (0x024, s.opb.toNat),
      (0x028, s.result.toNat), (0x02C, s.rsCfg.k.toNat + 2 ^ 16 * s.rsCfg.n.toNat),
      (0x040, s.arMode.mode.toNat + 16 * s.arMode.eci.toNat), (0x044, s.arCount.toNat),
      (0x048, s.arPbits.toNat),
      (0x04C, s.arVersion.version.toNat + 2 ^ 8 * s.arVersion.side.toNat),
      (0x050, s.arReqbits.toNat), (0x054, s.capBits.toNat), (0x058, s.dcwLen.toNat),
      (0x05C, s.finalLen.toNat), (0x060, s.streamBits.toNat),
      (0x064, s.blkG1.count.toNat + 2 ^ 8 * s.blkG1.data.toNat + 2 ^ 16 * s.blkG1.ec.toNat),
      (0x068, s.blkG2.count.toNat + 2 ^ 8 * s.blkG2.data.toNat), (0x06C, s.maskSel.toNat),
      (0x070, s.formatBits.toNat), (0x074, s.versionBits.toNat), (0x078, s.placedBits.toNat)] ++
      (List.finRange 8).map (fun k => (0x080 + 4 * k.val, s.penalty[k].toNat)) ++
      (List.finRange 8).flatMap (fun k => (List.finRange 4).map fun j =>
        (0x100 + 16 * k.val + 4 * j.val, s.penRule[k][j].toNat)) : List (Nat × Nat)),
    s.readAnswer p.1 .four = .read .okay (BitVec.ofNat 32 p.2) ∧
    ∀ rest, s.inbox = .access (.read (BitVec.ofNat 18 p.1) .four) :: rest →
      step s = .next { answered s rest (.read .okay (BitVec.ofNat 32 p.2)) with
        draws := s.draws + 1 }

/-- R101, R103: while no command runs, an aligned write of n bytes into RSDATA or
PAYLOAD stores bits [8k+7:8k] of its data at offset a + k and changes no other byte;
a PAYLOAD write also sets STAGE to IDLE (R461). -/
def Obligations.BufferWritesAreLittleEndian : Prop :=
  ∀ (s : State) (a : Offset) (size : AccessSize) (w : Word) (rest : List HostEvent),
    idleWith s (.access (.write a size w)) rest → goodForm a.toNat size →
    ((0x01000 ≤ a.toNat ∧ a.toNat < 0x01100) ∨ (0x02000 ≤ a.toNat ∧ a.toNat < 0x04000)) →
    ∃ m, step s = .next { answered s rest (.write .okay) with
        mem := m
        status := if a.toNat < 0x02000 then s.status else { s.status with stage := .idle } } ∧
      ∀ x, Memory.get? m x =
        if a.toNat ≤ x ∧ x < a.toNat + size.bytes then
          some (w.extractLsb' (8 * (x - a.toNat)) 8)
        else Memory.get? s.mem x

/-- R101, R103, R105, R53: while no command runs, an aligned read of n bytes of a
buffer or of the matrix window is answered OKAY; its bits [8k+7:8k] are the content
of offset a + k if that byte was ever written, and 0 for a slot outside MXN × MXN;
its bits above 8n are 0. -/
def Obligations.BufferReadsAreLittleEndian : Prop :=
  ∀ (s : State) (a : Offset) (size : AccessSize) (rest : List HostEvent),
    idleWith s (.access (.read a size)) rest → goodForm a.toNat size →
    0x00200 ≤ a.toNat → ¬ unmapped a.toNat →
    ∃ rdata, step s = .next
        { answered s rest (.read .okay rdata) with draws := s.draws + 1 } ∧
      (∀ k < size.bytes, ∀ b, a.toNat < 0x10000 →
        Memory.get? s.mem (a.toNat + k) = some b → rdata.extractLsb' (8 * k) 8 = b) ∧
      (∀ k < size.bytes, 0x10000 ≤ a.toNat →
        let r := (a.toNat - 0x10000) / 256
        let c := (a.toNat - 0x10000) % 256 + k
        some (rdata.extractLsb' (8 * k) 8) =
          if r < s.mxn ∧ c < s.mxn then Memory.get? s.mem (0x10000 + 256 * r + c) else some 0) ∧
      ∀ j, 8 * size.bytes ≤ j → rdata.getLsbD j = false

/-- R461: while no command runs, every write to PAYLOAD_LEN or CONFIG sets STAGE to
IDLE and stores its fields; writes to RS_CFG, OPA and OPB store theirs and leave
STAGE alone. Nothing else changes. -/
def Obligations.ConfigurationWritesInvalidateStage : Prop :=
  ∀ (s : State) (a : Offset) (w : Word) (rest : List HostEvent),
    idleWith s (.access (.write a .four w)) rest →
    (a = 0x014 → step s = .next { answered s rest (.write .okay) with
      config := { ecl := w.extractLsb' 0 2, band := w.extractLsb' 2 2
                  minver := w.extractLsb' 4 6 }
      status := { s.status with stage := .idle } }) ∧
    (a = 0x018 → step s = .next { answered s rest (.write .okay) with
      payloadLen := w.extractLsb' 0 16, status := { s.status with stage := .idle } }) ∧
    (a = 0x020 → step s = .next { answered s rest (.write .okay) with opa := w }) ∧
    (a = 0x024 → step s = .next { answered s rest (.write .okay) with opb := w }) ∧
    (a = 0x02C → step s = .next { answered s rest (.write .okay) with
      rsCfg := { k := w.extractLsb' 0 9, n := w.extractLsb' 16 8 } })

/-! ## Reset and interrupt (70_reset_and_hazards.md, 60_exceptions.md) -/

/-- R452: a write to CTRL with bit 1 set is answered OKAY, busy or not: any command
in progress is abandoned, every register takes its reset value, MXN is 0 and the
matrix window reads 0, the generator cache is empty, CTRL.IE is bit 0 of the word,
the interrupt output is 0, and the buffer bytes stay. A write with bit 1 clear only
sets IE. -/
def Obligations.SoftResetClearsRegistersKeepsBuffers : Prop :=
  ∀ (s : State) (w : Word) (rest : List HostEvent), s.rstN = true →
    ¬ (s.status.busy = true ∧ s.wait = 0) →
    s.inbox = .access (.write 0x004 .four w) :: rest →
    (w.getLsbD 1 = true → ∃ t, step s = .next t ∧ t.irq = false ∧
      (∀ a, a < 0x10000 → Memory.get? t.mem a = Memory.get? s.mem a) ∧
      (∀ a, 0x10000 ≤ a → a < 0x20000 → t.hostByte a = 0) ∧
      t = { State.reset with
        ctrlIE := w.getLsbD 0, mem := t.mem, rstN := true, latencies := s.latencies
        inbox := rest, outbox := .write .okay :: s.outbox, draws := s.draws }) ∧
    (w.getLsbD 1 = false → step s = .next { answered s rest (.write .okay) with
        ctrlIE := w.getLsbD 0
        wait := if s.status.busy then s.wait - 1 else s.wait })

/-- R451, R450: the falling reset input, which takes precedence also over a command
that would complete, abandons a command in progress and puts the core into the reset
state, with no buffer byte keeping a value; while it is low every access is answered
ERROR with no effect and the interrupt output is 0; when it returns to 1 the state is
the reset state. The premise of the last clause is ResetInv, which every step keeps
(StepKeepsResetState). -/
def Obligations.HardwareResetPutsResetState : Prop :=
  ∀ (s : State) (rest : List HostEvent),
    (s.inbox = .rstN false :: rest → ∃ t, step s = .next t ∧ t.irq = false ∧
      t = { State.reset with
        rstN := false, latencies := s.latencies, inbox := rest, outbox := s.outbox
        draws := s.draws }) ∧
    (s.rstN = false → s.irq = false) ∧
    (∀ a size, s.rstN = false → s.status.busy = false →
      s.inbox = .access (.read a size) :: rest →
      ∃ rdata, step s = .next
        { answered s rest (.read .error rdata) with draws := s.draws + 1 }) ∧
    (∀ a size w, s.rstN = false → s.status.busy = false →
      s.inbox = .access (.write a size w) :: rest →
      step s = .next (answered s rest (.write .error))) ∧
    (ResetInv s → s.rstN = false → s.inbox = .rstN true :: rest →
      step s = .next { State.reset with
        rstN := true, latencies := s.latencies, inbox := rest, outbox := s.outbox
        draws := s.draws })

/-- R450: after a hardware reset ID reads its constant and every other register 0,
no buffer byte has a value, GEN bytes 33..63 and every matrix slot read 0, the
cache is empty, no command is in progress and the interrupt output is 0. -/
def Obligations.ResetStateAsTabulated : Prop :=
  (∀ a v, State.reset.readReg a = some v → v = if a = 0 then 0x51524337 else 0) ∧
  (∀ a, (0x01000 ≤ a ∧ a < 0x01120) ∨ (0x01200 ≤ a ∧ a < 0x01221) ∨
    (0x02000 ≤ a ∧ a < 0x06000) → Memory.get? State.reset.mem a = none) ∧
  (∀ a, 0x01221 ≤ a → a < 0x01240 → State.reset.hostByte a = 0) ∧
  (∀ a, 0x10000 ≤ a → a < 0x20000 → State.reset.hostByte a = 0) ∧
  State.reset.mxn = 0 ∧ State.reset.genCache = [] ∧ State.reset.status.busy = false ∧
  State.reset.irq = false

/-- R420: the interrupt output is CTRL.IE and DONE (0 while rst_n is low, R451). So
it follows IE at every completion, with or without an error, drops when the next
command is issued, and drops when the host writes 1 to DONE. -/
def Obligations.InterruptFollowsCompletion : Prop :=
  (∀ s : State, s.irq = true ↔ s.rstN = true ∧ s.ctrlIE = true ∧ s.status.done = true) ∧
  (∀ (i : Instr) (s t : State), exec i s = .next t → t.irq = (s.rstN && s.ctrlIE)) ∧
  (∀ (s t : State) (w : Word) (i : Instr) (rest : List HostEvent), decode w = some i →
    idleWith s (.access (.write 0x008 .four w)) rest → step s = .next t → t.irq = false) ∧
  (∀ (s t : State) (w : Word) (rest : List HostEvent), w.getLsbD 1 = true →
    idleWith s (.access (.write 0x00C .four w)) rest → step s = .next t → t.irq = false)

/-! ## All commands -/

/-- R411, R413: a command either succeeds and leaves ERR, ERRSTICKY, ERRCODE and
ERRINFO alone, or it ends in one of the errors that R413 gives it; then STATUS and
ERRINFO say so, STAGE falls to IDLE for ANALYZE and ENCODE_QR only, and no other
part of the state differs from the state before the command (the counter of log
entry 2 apart). -/
def Obligations.ErrorsArePreciseAndListed : Prop :=
  ∀ (i : Instr) (s : State),
    (∃ t, exec i s = .next t ∧ t.status.busy = false ∧ t.status.done = true ∧
      t.status.err = s.status.err ∧ t.status.errSticky = s.status.errSticky ∧
      t.status.errCode = s.status.errCode ∧ t.errInfo = s.errInfo) ∨
    ∃ e ∈ possibleErrors i, exec i s = .next
      (errorState i e (if i = .analyze ∨ i = .encodeQr then .idle else s.status.stage) s)

/-- R395: how each command moves STAGE, from every stage; a single-stage command
ends in PHASE_ORDER, with no other effect, in every stage but its own, and
succeeds in its own. ERR is 0 when a command starts (R34). -/
def Obligations.StageMovesAsTabulated : Prop :=
  (∀ (i : Instr) (s t : State), s.status.err = false → exec i s = .next t →
    t.status.stage = stageAfter i (!t.status.err) s.status.stage) ∧
  (∀ (i : Instr) (s : State) (before after : Stage), singleStage i = some (before, after) →
    (s.status.stage ≠ before →
      exec i s = .next (errorState i .phaseOrder s.status.stage s)) ∧
    (s.status.stage = before → ∃ t, exec i s = .next t ∧ t.status = stagedStatus after s))

/-- R143, R51, R50, R464: what each command leaves alone when it has run. No command
writes the host's registers or the RSDATA and PAYLOAD bytes; each result register,
each output buffer and the matrix is written only by the commands that the tables
name. The premise is StageInv.version, which every step keeps: only in states that
break it could an undefined BLOCK ROM row (log entry 7) exceed a buffer. -/
def Obligations.OnlyTabulatedLocationsChange : Prop :=
  ∀ (i : Instr) (s t : State),
    (s.status.stage ≠ .idle → 1 ≤ s.version ∧ s.version ≤ 40) → exec i s = .next t →
    (t.ctrlIE = s.ctrlIE ∧ t.cmd = s.cmd ∧ t.config = s.config ∧
      t.payloadLen = s.payloadLen ∧ t.opa = s.opa ∧ t.opb = s.opb ∧ t.rsCfg = s.rsCfg ∧
      t.rstN = s.rstN ∧ t.wait = s.wait ∧ t.latencies = s.latencies ∧ t.inbox = s.inbox ∧
      t.outbox = s.outbox) ∧
    (∀ a, (0x01000 ≤ a ∧ a < 0x01100) ∨ (0x02000 ≤ a ∧ a < 0x04000) →
      Memory.get? t.mem a = Memory.get? s.mem a) ∧
    (i ∉ [.gfAdd, .gfMul, .gfDiv, .gfPow, .gfExp, .gfLog, .rsGenpoly, .rsEncode, .rsRemainder,
        .rsSyndrome, .bchFormat, .bchVersion] → t.result = s.result) ∧
    (i ∉ [.classify, .analyze, .encodeQr] →
      t.arMode = s.arMode ∧ t.arCount = s.arCount ∧ t.arPbits = s.arPbits) ∧
    (i ∉ [.analyze, .encodeQr] → t.arVersion = s.arVersion ∧ t.arReqbits = s.arReqbits ∧
      t.capBits = s.capBits ∧ t.blkG1 = s.blkG1 ∧ t.blkG2 = s.blkG2) ∧
    (i ∉ [.encodeData, .encodeQr] → t.dcwLen = s.dcwLen ∧
      ∀ a, 0x04000 ≤ a → a < 0x05000 → Memory.get? t.mem a = Memory.get? s.mem a) ∧
    (i ∉ [.interleave, .encodeQr] → t.finalLen = s.finalLen ∧ t.streamBits = s.streamBits ∧
      ∀ a, 0x05000 ≤ a → a < 0x10000 → Memory.get? t.mem a = Memory.get? s.mem a) ∧
    (i ∉ [.mxPlace, .encodeQr] → t.placedBits = s.placedBits) ∧
    (i ∉ [.mxMask, .encodeQr] → t.maskSel = s.maskSel ∧ t.penalty = s.penalty ∧
      t.penRule = s.penRule) ∧
    (i ∉ [.mxChecksum, .encodeQr] → t.formatBits = s.formatBits ∧
      t.versionBits = s.versionBits) ∧
    (i ∉ [.mxGeometry, .encodeQr] → t.mxn = s.mxn) ∧
    (i ∉ [.mxGeometry, .mxPlace, .mxMask, .mxChecksum, .encodeQr] →
      ∀ a, 0x10000 ≤ a → Memory.get? t.mem a = Memory.get? s.mem a) ∧
    (i ∉ [.rsEncode, .rsRemainder, .rsSyndrome] →
      ∀ a, 0x01100 ≤ a → a < 0x01200 → Memory.get? t.mem a = Memory.get? s.mem a) ∧
    (i ≠ .rsGenpoly →
      ∀ a, 0x01200 ≤ a → a < 0x02000 → Memory.get? t.mem a = Memory.get? s.mem a)

/-- R39, R143: a command's effect does not depend on the operand bits that its rule
does not name: running it with other such bits gives the same state, those bits
apart. -/
def Obligations.UnnamedOperandBitsAreIgnored : Prop :=
  ∀ (i : Instr) (s : State) (x y : Word),
    (match i with
      | .gfAdd | .gfMul | .gfDiv | .gfPow | .gfLog => x.extractLsb' 0 8 = s.opa.extractLsb' 0 8
      | .gfExp => x.extractLsb' 0 9 = s.opa.extractLsb' 0 9
      | .bchFormat => x.extractLsb' 0 2 = s.opa.extractLsb' 0 2
      | .bchVersion => x.extractLsb' 0 6 = s.opa.extractLsb' 0 6
      | _ => True) →
    (match i with
      | .gfAdd | .gfMul | .gfDiv | .gfPow => y.extractLsb' 0 8 = s.opb.extractLsb' 0 8
      | .bchFormat => y.extractLsb' 0 3 = s.opb.extractLsb' 0 3
      | _ => True) →
    ∃ t, exec i s = .next t ∧
      exec i { s with opa := x, opb := y } = .next { t with opa := x, opb := y }

/-! ## NOP and the GF commands (48_pipeline_system.md, 41_gf.md) -/

/-- R390: NOP completes and changes nothing else. -/
def Obligations.NopOnlyCompletes : Prop :=
  ∀ s : State, exec .nop s = .next { s with status := doneStatus s }

/-- R171: GF_ADD writes the exclusive OR of OPA[7:0] and OPB[7:0] to RESULT,
zero-extended, and nothing else. -/
def Obligations.GfAddWritesSum : Prop :=
  ∀ s : State, exec .gfAdd s = .next { s with
    result := (s.opa.extractLsb' 0 8 ^^^ s.opb.extractLsb' 0 8).setWidth 32
    status := doneStatus s }

/-- R172, R170: GF_MUL writes the product of OPA[7:0] and OPB[7:0] as polynomials
modulo 0x11D to RESULT, and nothing else. -/
def Obligations.GfMulWritesProduct : Prop :=
  ∀ s : State, exec .gfMul s = .next { s with
    result := (polyMul (s.opa.extractLsb' 0 8) (s.opb.extractLsb' 0 8)).setWidth 32
    status := doneStatus s }

/-- R173: GF_DIV writes the element whose product with the divisor OPB[7:0] is the
dividend OPA[7:0]; by a divisor of 0 it raises DIVIDE_BY_ZERO, also for 0 / 0, and
changes nothing but STATUS and ERRINFO. -/
def Obligations.GfDivWritesQuotient : Prop :=
  (∀ s : State, s.opb.extractLsb' 0 8 ≠ 0 → ∃ q : Byte,
    polyMul q (s.opb.extractLsb' 0 8) = s.opa.extractLsb' 0 8 ∧
    exec .gfDiv s = .next { s with result := q.setWidth 32, status := doneStatus s }) ∧
  ∀ s : State, s.opb.extractLsb' 0 8 = 0 →
    exec .gfDiv s = .next (errorState .gfDiv .divideByZero s.status.stage s)

/-- R174: GF_POW writes the OPB[7:0]-fold product of OPA[7:0] with itself, 1 for
exponent 0, also of base 0, and nothing else. -/
def Obligations.GfPowWritesPower : Prop :=
  ∀ s : State, exec .gfPow s = .next { s with
    result := (polyPow (s.opa.extractLsb' 0 8) (s.opb.extractLsb' 0 8).toNat).setWidth 32
    status := doneStatus s }

/-- R175, R40: GF_EXP writes α^i for i = OPA[8:0], and nothing else. -/
def Obligations.GfExpWritesAlphaPower : Prop :=
  ∀ s : State, exec .gfExp s = .next { s with
    result := (alphaPow (s.opa.extractLsb' 0 9).toNat).setWidth 32
    status := doneStatus s }

/-- R176, R41: GF_LOG of a ≠ 0 writes the i in 0..254 with α^i = a; of 0 it raises
DOMAIN and leaves RESULT alone. -/
def Obligations.GfLogWritesExponent : Prop :=
  (∀ s : State, s.opa.extractLsb' 0 8 ≠ 0 → ∃ i < 255,
    alphaPow i = s.opa.extractLsb' 0 8 ∧
    exec .gfLog s = .next { s with result := BitVec.ofNat 32 i, status := doneStatus s }) ∧
  ∀ s : State, s.opa.extractLsb' 0 8 = 0 →
    exec .gfLog s = .next (errorState .gfLog .domain s.status.stage s)

/-- R177: the laws of the field functions. -/
def Obligations.FieldLawsHold : Prop :=
  (∀ a b c : Byte, gfAdd a b = gfAdd b a ∧ gfMul a b = gfMul b a ∧
    gfAdd (gfAdd a b) c = gfAdd a (gfAdd b c) ∧ gfMul (gfMul a b) c = gfMul a (gfMul b c) ∧
    gfMul a (gfAdd b c) = gfAdd (gfMul a b) (gfMul a c) ∧
    gfAdd a 0 = a ∧ gfMul a 1 = a) ∧
  (∀ a : Byte, a ≠ 0 → ∃ q, gfDiv 1 a = .ok q ∧ gfMul a q = 1) ∧
  (∀ a b : Byte, gfMul a b = 0 → a = 0 ∨ b = 0) ∧
  (∀ (a : Byte) (e f : Nat), gfPow a (e + f) = gfMul (gfPow a e) (gfPow a f)) ∧
  (∀ (a : Byte) (e : Nat), a ≠ 0 → gfPow a e = gfPow a (e % 255)) ∧
  (∀ e : Nat, 1 ≤ e → gfPow 0 e = 0) ∧
  (∀ a : Byte, a ≠ 0 → expRom (logRom a).toNat = a) ∧
  (∀ i : Nat, i < 512 → (logRom (expRom i)).toNat = i % 255) ∧
  (∀ a : Byte, gfMul a 2 = (a <<< 1) ^^^ (if a.getLsbD 7 then 0x1D else 0))

/-! ## The RS commands (42_rs.md) -/

/-- R202, R201, R200: RS_GENPOLY with N in 1..32 stores into GEN bytes 0..N the monic
polynomial of degree N whose roots are α^0..α^(N-1), writes N + 1 to RESULT, and
changes nothing else (the cache apart, which R60 hides). For N = 0 and N > 32 it
ends in its errors. -/
def Obligations.RsGenpolyStoresMonicPolynomialWithRoots : Prop :=
  rsErrors .rsGenpoly false ∧
  ∀ s : State, 1 ≤ s.rsCfg.n.toNat → s.rsCfg.n.toNat ≤ 32 → ∃ g m cache,
    exec .rsGenpoly s = .next { s with
      mem := m, result := BitVec.ofNat 32 (s.rsCfg.n.toNat + 1), genCache := cache
      status := doneStatus s } ∧
    g.length = s.rsCfg.n.toNat + 1 ∧ g[0]? = some 1 ∧ vanishesAtRoots g s.rsCfg.n.toNat ∧
    StoresExactly s.mem m 0x01200 g

/-- R203, R208, R200: RS_ENCODE with N in 1..32 and K ≤ 256 stores into RSOUT the N
bytes that, appended to RSDATA bytes 0..K-1, make a polynomial with the roots
α^0..α^(N-1), a codeword; it writes N to RESULT and changes nothing else (the cache
and the model's counter of log entry 2 apart). Outside these limits it ends in its
errors. -/
def Obligations.RsEncodeCompletesCodeword : Prop :=
  rsErrors .rsEncode true ∧
  ∀ s : State, 1 ≤ s.rsCfg.n.toNat → s.rsCfg.n.toNat ≤ 32 → s.rsCfg.k.toNat ≤ 256 →
    ∃ ec m cache,
      exec .rsEncode s = .next { s with
        mem := m, result := BitVec.ofNat 32 s.rsCfg.n.toNat, genCache := cache
        draws := s.draws + 1, status := doneStatus s } ∧
      ec.length = s.rsCfg.n.toNat ∧ vanishesAtRoots (rsDataOf s ++ ec) s.rsCfg.n.toNat ∧
      StoresExactly s.mem m 0x01100 ec

/-- R204, R200: RS_REMAINDER with N in 1..32 and K ≤ 256 stores into RSOUT the N
coefficients of the polynomial of degree below N that agrees with C at every root
of g_N, which is C mod g_N, and writes 1 to RESULT if all are 0, else 0. Outside
these limits it ends in its errors. -/
def Obligations.RsRemainderStoresRemainder : Prop :=
  rsErrors .rsRemainder true ∧
  ∀ s : State, 1 ≤ s.rsCfg.n.toNat → s.rsCfg.n.toNat ≤ 32 → s.rsCfg.k.toNat ≤ 256 →
    ∃ (r : List Byte) (m : Memory) (cache : List GenEntry),
      exec .rsRemainder s = .next { s with
        mem := m, result := if ∀ b ∈ r, b = 0 then 1 else 0, genCache := cache
        draws := s.draws + 1, status := doneStatus s } ∧
      r.length = s.rsCfg.n.toNat ∧
      (∀ i < s.rsCfg.n.toNat, evalPoly r (alphaPow i) = evalPoly (rsDataOf s) (alphaPow i)) ∧
      StoresExactly s.mem m 0x01100 r

/-- R205, R200: RS_SYNDROME with N in 1..32 and K ≤ 256 stores into RSOUT the values
of C at α^0..α^(N-1), and writes 1 to RESULT if all are 0, else 0. Outside these
limits it ends in its errors. -/
def Obligations.RsSyndromeStoresEvaluations : Prop :=
  rsErrors .rsSyndrome true ∧
  ∀ s : State, 1 ≤ s.rsCfg.n.toNat → s.rsCfg.n.toNat ≤ 32 → s.rsCfg.k.toNat ≤ 256 →
    ∃ m, exec .rsSyndrome s = .next { s with
        mem := m
        result := if ∀ i < s.rsCfg.n.toNat, evalPoly (rsDataOf s) (alphaPow i) = 0 then 1 else 0
        draws := s.draws + 1, status := doneStatus s } ∧
      StoresExactly s.mem m 0x01100
        ((List.range s.rsCfg.n.toNat).map fun i => evalPoly (rsDataOf s) (alphaPow i))

/-- R205, R204: RS_REMAINDER and RS_SYNDROME give the same RESULT for the same K, N
and RSDATA, and it is 1 exactly when C has the roots of g_N. -/
def Obligations.CodewordChecksAgree : Prop :=
  ∀ s t u : State, 1 ≤ s.rsCfg.n.toNat → s.rsCfg.n.toNat ≤ 32 → s.rsCfg.k.toNat ≤ 256 →
    exec .rsRemainder s = .next t → exec .rsSyndrome s = .next u →
    t.result = u.result ∧
      (t.result = 1 ↔ vanishesAtRoots (rsDataOf s) s.rsCfg.n.toNat)

/-- R206: the properties of the RS functions, for 1 ≤ n ≤ 32 and every block. -/
def Obligations.RsFunctionProperties : Prop :=
  ∀ n : Nat, 1 ≤ n → n ≤ 32 →
    (∀ k, rsEc (List.replicate k 0) n = List.replicate n 0) ∧
    (∀ d d' : List Byte, d.length = d'.length →
      rsEc (List.zipWith (· ^^^ ·) d d') n =
        List.zipWith (· ^^^ ·) (rsEc d n) (rsEc d' n)) ∧
    (∀ z d, rsEc (List.replicate z 0 ++ d) n = rsEc d n) ∧
    (∀ d, rsRemainder (d ++ rsEc d n) n = List.replicate n 0 ∧
      rsSyndromes (d ++ rsEc d n) n = List.replicate n 0) ∧
    rsEc [1] n = (genpoly n).tail ∧
    ((genpoly n).length = n + 1 ∧ (genpoly n)[0]? = some 1 ∧
      ∀ i < n, hornerAt i (genpoly n) = 0)

/-! ## The BCH commands (47_mask_checksum.md) -/

/-- R361, R360: BCH_FORMAT writes the format value that the table of R360 prints for
level OPA[1:0] and mask OPB[2:0], and nothing else. -/
def Obligations.BchFormatWritesTableValue : Prop :=
  ∀ s : State, exec .bchFormat s = .next { s with
    result := BitVec.ofNat 32 (formatValue (s.opa.extractLsb' 0 2) (s.opb.extractLsb' 0 3))
    status := doneStatus s }

/-- R363, R362: BCH_VERSION writes, for every v = OPA[5:0], the 18-bit word with v
on top that is a multiple of 1111100100101 over GF(2), and nothing else. -/
def Obligations.BchVersionWritesCodeword : Prop :=
  ∀ s : State, ∃ ver, isVersionInfo (s.opa.extractLsb' 0 6).toNat ver ∧
    exec .bchVersion s = .next { s with
      result := BitVec.ofNat 32 ver, status := doneStatus s }

/-! ## Analyzer, serializer, interleaver (43_analyzer.md - 45_interleave.md) -/

/-- R237, R230-R235, R241: CLASSIFY writes the mode indicator, the ECI decision, the
count and the payload bits of PAYLOAD bytes 0..LEN-1, and nothing else (the counter
of log entry 2 apart); for LEN > 8192 it raises PAYLOAD_TOO_LARGE. -/
def Obligations.ClassifyWritesClassification : Prop :=
  (∀ s : State, s.payloadLen.toNat ≤ 8192 → exec .classify s = .next { s with
    arMode := { mode := BitVec.ofNat 4 (modeCode (textMode (payloadOf s)))
                eci := textEci (payloadOf s) }
    arCount := s.payloadLen
    arPbits := BitVec.ofNat 17 (textBits (textMode (payloadOf s)) s.payloadLen.toNat)
    draws := s.draws + 1
    status := doneStatus s }) ∧
  ∀ s : State, 8192 < s.payloadLen.toNat →
    exec .classify s = .next (errorState .classify .payloadTooLarge s.status.stage s)

/-- R245, R240-R244: if v is the least version of the band, not below MINVER, that
holds the payload, ANALYZE selects it, writes the analyzer result and moves STAGE
to ANALYZED, from every stage; nothing else changes (the counter of log entry 2
apart). For BAND = 3, LEN > 8192 and a payload that no version holds it ends in its
errors, in this order. -/
def Obligations.AnalyzeSelectsLeastVersion : Prop :=
  analyzerErrors .analyze ∧
  ∀ (s : State) (v : Nat), s.payloadLen.toNat ≤ 8192 → versionSelected s (payloadOf s) v →
    let b := blockRom v s.config.ecl
    exec .analyze s = .next { s with
      arMode := { mode := BitVec.ofNat 4 (modeCode (textMode (payloadOf s)))
                  eci := textEci (payloadOf s) }
      arCount := s.payloadLen
      arPbits := BitVec.ofNat 17 (textBits (textMode (payloadOf s)) s.payloadLen.toNat)
      arVersion := { version := BitVec.ofNat 6 v, side := BitVec.ofNat 8 (4 * v + 17) }
      arReqbits := BitVec.ofNat 18 (bitsNeeded (payloadOf s) v)
      capBits := BitVec.ofNat 16 (8 * (b.count1 * b.data1 + b.count2 * b.data2))
      blkG1 := { count := BitVec.ofNat 8 b.count1, data := BitVec.ofNat 8 b.data1
                 ec := BitVec.ofNat 8 b.ec }
      blkG2 := { count := BitVec.ofNat 8 b.count2, data := BitVec.ofNat 8 b.data2 }
      draws := s.draws + 1
      status := stagedStatus .analyzed s }

/-- R260, R262-R267: in stage ANALYZED, with the payload's mode in AR_MODE, its count
in AR_COUNT and a stream that fits, ENCODE_DATA stores D data codewords that, read
as one number, are the fields of R262-R266 one after the other, which take exactly
8·D bits; it writes DCW_LEN, moves STAGE to ENCODED and changes nothing else (the
counter of log entry 2 apart). In any other stage it raises PHASE_ORDER. -/
def Obligations.EncodeDataStoresPaddedStream : Prop :=
  phaseErrors .encodeData .analyzed ∧
  ∀ (s : State), s.status.stage = .analyzed → 1 ≤ s.version → s.version ≤ 40 →
    let p := payloadOf s
    let d := dataBytes (blockRom s.version s.config.ecl)
    let header := headerFields (textMode p) s.arMode.eci s.arCount.toNat s.version
    let fields := streamFields (textMode p) s.arMode.eci s.arCount.toNat s.version (8 * d) p
    s.arMode.mode.toNat = modeCode (textMode p) →
    s.arCount.toNat < 2 ^ countWidth (textMode p) s.version →
    fieldsWidth (header ++ payloadFields (textMode p) p) ≤ 8 * d →
    ∃ dcw m, exec .encodeData s = .next { s with
        mem := m, dcwLen := BitVec.ofNat 12 d, draws := s.draws + 1
        status := stagedStatus .encoded s } ∧
      dcw.length = d ∧ fieldsWidth fields = 8 * d ∧ bytesValue dcw = fieldsValue fields ∧
      StoresExactly s.mem m 0x04000 dcw

/-- R280-R285: in stage ENCODED, INTERLEAVE stores T final codewords: byte `col` of
data block k stands at its column-interleaved position, and so do the ec bytes that
complete block k to a codeword (roots α^0..α^(ec-1)), after all data bytes; it
writes FINAL_LEN = T and STREAM_BITS = 8·T + rem(v), moves STAGE to INTERLEAVED and
changes nothing else (the cache and the counter of log entry 2 apart). In any other
stage it raises PHASE_ORDER. -/
def Obligations.InterleaveStoresCodewordColumns : Prop :=
  phaseErrors .interleave .encoded ∧
  ∀ (s : State), s.status.stage = .encoded → 1 ≤ s.version → s.version ≤ 40 →
    let b := blockRom s.version s.config.ecl
    let dcw := bytesAt s 0x04000 (b.count1 * b.data1 + b.count2 * b.data2)
    let total := b.count1 * b.data1 + b.count2 * b.data2 + (b.count1 + b.count2) * b.ec
    ∃ f m cache, exec .interleave s = .next { s with
        mem := m, genCache := cache, finalLen := BitVec.ofNat 12 total
        streamBits := BitVec.ofNat 16 (8 * total + remRom s.version), draws := s.draws + 1
        status := stagedStatus .interleaved s } ∧
      f.length = total ∧ StoresExactly s.mem m 0x05000 f ∧
      (∀ k < b.count1 + b.count2, ∀ col < blockLen b k,
        f[dataPosition b k col]? = dcw[blockStart b k + col]?) ∧
      ∀ k < b.count1 + b.count2, ∃ ec : List Byte, ec.length = b.ec ∧
        vanishesAtRoots ((dcw.drop (blockStart b k)).take (blockLen b k) ++ ec) b.ec ∧
        ∀ col < b.ec, f[ecPosition b k col]? = ec[col]?

/-! ## Matrix (46_matrix.md, 47_mask_checksum.md) -/

/-- R300-R308: in stage INTERLEAVED, MX_GEOMETRY stores, for every cell of the N×N
grid, the byte of a resolved function module in its colour where the geometry puts
one and 0x00 elsewhere; every other slot of the matrix window becomes 0x00, the
buffers stay, MXN becomes N, STAGE moves to GEOMETRY, and nothing else changes. In
any other stage it raises PHASE_ORDER. -/
def Obligations.MxGeometryBuildsFunctionPatterns : Prop :=
  phaseErrors .mxGeometry .interleaved ∧
  ∀ (s : State), s.status.stage = .interleaved → 1 ≤ s.version → s.version ≤ 40 →
    ∃ m, exec .mxGeometry s = .next { s with
        mem := m, mxn := 4 * s.version + 17, status := stagedStatus .geometry s } ∧
      (∀ r < 4 * s.version + 17, ∀ c < 4 * s.version + 17,
        Memory.get? m (0x10000 + 256 * r + c) = some
          (match geometryColour s.version r c with
            | some true => 0x07 | some false => 0x06 | none => 0x00)) ∧
      (∀ r < 256, ∀ c < 256, 4 * s.version + 17 ≤ r ∨ 4 * s.version + 17 ≤ c →
        Memory.get? m (0x10000 + 256 * r + c) = some 0x00) ∧
      ∀ a, a < 0x10000 → Memory.get? m a = Memory.get? s.mem a

/-- R312: the geometry leaves exactly data(v) = 8·(total codewords) + rem(v) cells
for data, and that is the formula of R312. -/
def Obligations.DataCellCountMatchesStream : Prop :=
  ∀ v, 1 ≤ v → v ≤ 40 → ∀ ecl : BitVec 2,
    let n := 4 * v + 17
    let data := ((List.range n).map fun r =>
      (List.range n).countP fun c => (geometryColour v r c).isNone).sum
    data = 8 * totalCodewords (blockRom v ecl) + remRom v ∧
    (data : Int) = (16 * v + 128) * v + 64 -
      (if 2 ≤ v then (25 * (v / 7 + 2 : Nat) - 10) * (v / 7 + 2 : Nat) - 55 else 0) -
      (if 7 ≤ v then 36 else 0)

/-- R320-R322: in stage GEOMETRY, MX_PLACE gives the k-th open cell of the zig-zag
order (neither function nor resolved) bit k of the stream, dark for 1, light for 0
and past the end, as a data module; every other cell stays. PLACED_BITS is the
smaller of the open cells' count and STREAM_BITS; STAGE moves to PLACED; nothing
else changes (the counter of log entry 2 apart). In any other stage it raises
PHASE_ORDER. -/
def Obligations.MxPlaceFollowsZigzag : Prop :=
  phaseErrors .mxPlace .geometry ∧
  ∀ (s : State), s.status.stage = .geometry → 1 ≤ s.version → s.version ≤ 40 →
    let n := 4 * s.version + 17
    let isOpen := fun p : Nat =>
      let x := cellAt s (visitCell n p).1 (visitCell n p).2
      decide (x.func = false ∧ x.state = .unset)
    let before := fun p : Nat => (List.range p).countP isOpen
    let bit := fun k : Nat => decide (k < s.streamBits.toNat ∧ k < 8 * s.finalLen.toNat) &&
      (byteAt s (0x05000 + k / 8)).getLsbD (7 - k % 8)
    ∃ m cell, exec .mxPlace s = .next { s with
        mem := m, draws := s.draws + 1, status := stagedStatus .placed s
        placedBits := BitVec.ofNat 16 (min (before (visits n)) s.streamBits.toNat) } ∧
      StoresGrid s.mem m n cell ∧
      (∀ p < visits n, isOpen p = true → cell (visitCell n p).1 (visitCell n p).2 =
        { state := if bit (before p) then .dark else .light, func := false }) ∧
      (∀ p < visits n, isOpen p = false →
        cell (visitCell n p).1 (visitCell n p).2 = cellAt s (visitCell n p).1 (visitCell n p).2) ∧
      ∀ r < n, cell r 6 = cellAt s r 6

/-- R323: placed into the geometry's matrix, a stream of data(v) bits resolves every
cell of the N×N grid, leaves every function cell as it was, and PLACED_BITS is the
stream's length. -/
def Obligations.PlacementResolvesEveryCell : Prop :=
  ∀ (s t : State), s.status.stage = .geometry → 1 ≤ s.version → s.version ≤ 40 →
    (∀ r < 4 * s.version + 17, ∀ c < 4 * s.version + 17,
      cellAt s r c = geometryCell s.version r c) →
    s.streamBits.toNat = 8 * totalCodewords (blockRom s.version s.config.ecl) +
      remRom s.version →
    exec .mxPlace s = .next t →
    t.placedBits = s.streamBits ∧
    ∀ r < 4 * s.version + 17, ∀ c < 4 * s.version + 17,
      (cellAt t r c).state ≠ .unset ∧
      ((cellAt s r c).func = true → cellAt t r c = cellAt s r c) ∧
      (cellAt t r c).func = (cellAt s r c).func

/-- R344-R350: the scorecard of a square candidate, rule by rule, is the one counted
position by position over its cells. -/
def Obligations.ScorecardCountsRules : Prop :=
  ∀ (n : Nat) (g : List (List Bool)), 1 ≤ n → g.length = n → (∀ row ∈ g, row.length = n) →
    let dark := fun r c => (g.getD r []).getD c false
    (scoreOf n g).p1 = ruleScore n dark 0 ∧ (scoreOf n g).p2 = ruleScore n dark 1 ∧
    (scoreOf n g).p3 = ruleScore n dark 2 ∧ (scoreOf n g).p4 = ruleScore n dark 3 ∧
    (scoreOf n g).total = totalScore n dark

/-- R340-R351: in stage PLACED, with every cell resolved, MX_MASK writes the four
penalties of each candidate and their sum, selects the mask with the lowest total,
the lowest index among equal ones, flips exactly the data cells where that mask
holds, and moves STAGE to MASKED; function cells and everything else stay. In any
other stage it raises PHASE_ORDER. -/
def Obligations.MxMaskAppliesBestMask : Prop :=
  phaseErrors .mxMask .placed ∧
  ∀ (s : State), s.status.stage = .placed → 1 ≤ s.version → s.version ≤ 40 →
    let n := 4 * s.version + 17
    (∀ r < n, ∀ c < n, (cellAt s r c).state ≠ .unset) →
    let candidate := fun k r c : Nat =>
      xor (cellAt s r c).isDark (!(cellAt s r c).func && maskPredicate k r c)
    ∃ (m : Memory) (cell : Nat → Nat → MCell) (best : Fin 8) (total : Vector Word 8)
      (rules : Vector (Vector Word 4) 8),
      exec .mxMask s = .next { s with
        mem := m, maskSel := BitVec.ofNat 3 best.val, penalty := total, penRule := rules
        status := stagedStatus .masked s } ∧
      (∀ k : Fin 8, total[k] = BitVec.ofNat 32 (totalScore n (candidate k.val)) ∧
        ∀ j : Fin 4, rules[k][j] = BitVec.ofNat 32 (ruleScore n (candidate k.val) j.val)) ∧
      (∀ k : Fin 8, totalScore n (candidate best.val) ≤ totalScore n (candidate k.val)) ∧
      (∀ k : Fin 8, k < best →
        totalScore n (candidate best.val) < totalScore n (candidate k.val)) ∧
      StoresGrid s.mem m n cell ∧
      ∀ r < n, ∀ c < n, cell r c =
        if (cellAt s r c).func then cellAt s r c
        else { state := if candidate best.val r c then .dark else .light, func := false }

/-- R353: applying a mask twice to a grid without unset data cells gives the grid
back, and applying it once leaves every function cell as it was. -/
def Obligations.MaskingIsAnInvolution : Prop :=
  ∀ (k : Nat) (g : Grid),
    ((∀ row ∈ g, ∀ x ∈ row, x.func = false → x.state ≠ .unset) →
      applyMask k (applyMask k g) = g) ∧
    ∀ r c, (g.get r c).func = true → (applyMask k g).get r c = g.get r c

/-- R364-R366: in stage MASKED, MX_CHECKSUM writes the format value of CONFIG.ECL and
MASK_SEL, bit by bit, into both cells of each format bit, and from version 7 on the
version value into both cells of each version bit, all as function modules; no
other cell changes. FORMAT_BITS and VERSION_BITS keep the values, STAGE moves to
CHECKSUMMED, and nothing else changes. In any other stage it raises PHASE_ORDER. -/
def Obligations.MxChecksumWritesBothCopies : Prop :=
  phaseErrors .mxChecksum .masked ∧
  ∀ (s : State), s.status.stage = .masked → 1 ≤ s.version → s.version ≤ 40 →
    let n := 4 * s.version + 17
    let fmt := formatValue s.config.ecl s.maskSel
    let fixed := fun d : Bool => ({ state := if d then .dark else .light, func := true } : MCell)
    ∃ m cell ver, isVersionInfo s.version ver ∧
      exec .mxChecksum s = .next { s with
        mem := m, formatBits := BitVec.ofNat 15 fmt
        versionBits := if 7 ≤ s.version then BitVec.ofNat 18 ver else 0
        status := stagedStatus .checksummed s } ∧
      StoresGrid s.mem m n cell ∧
      (∀ b < 15, cell (formatCell1 b).1 (formatCell1 b).2 = fixed (fmt.testBit b) ∧
        cell (formatCell2 n b).1 (formatCell2 n b).2 = fixed (fmt.testBit b)) ∧
      (7 ≤ s.version → ∀ i < 18,
        cell (versionCell n i).1 (versionCell n i).2 = fixed (ver.testBit i) ∧
        cell (versionCell n i).2 (versionCell n i).1 = fixed (ver.testBit i)) ∧
      ∀ r < n, ∀ c < n,
        (∀ b < 15, (r, c) ≠ formatCell1 b ∧ (r, c) ≠ formatCell2 n b) →
        (7 ≤ s.version → ∀ i < 18, (r, c) ≠ versionCell n i ∧ (c, r) ≠ versionCell n i) →
        cell r c = cellAt s r c

/-- R391: for a payload that has been written and fits, ENCODE_QR answers the state
that the seven single-stage commands reach one after the other, STAGE CHECKSUMMED
included; only the model's counter of log entry 2 tells how many commands read
buffers. Its errors are the analyzer's. -/
def Obligations.EncodeQrEqualsSevenStages : Prop :=
  analyzerErrors .encodeQr ∧
  ∀ (s : State) (v : Nat), s.payloadLen.toNat ≤ 8192 → payloadWritten s →
    versionSelected s (payloadOf s) v →
    ∃ t1 t2 t3 t4 t5 t6 t7 : State,
      exec .analyze s = .next t1 ∧ exec .encodeData t1 = .next t2 ∧
      exec .interleave t2 = .next t3 ∧ exec .mxGeometry t3 = .next t4 ∧
      exec .mxPlace t4 = .next t5 ∧ exec .mxMask t5 = .next t6 ∧
      exec .mxChecksum t6 = .next t7 ∧ t7.status = stagedStatus .checksummed s ∧
      exec .encodeQr s = .next { t7 with draws := s.draws + 1 }

/-! ## Invariants and isolation -/

/-- R450: the reset state satisfies the invariant of the core. -/
def Obligations.ResetSatisfiesCoreInvariant : Prop := CoreInv State.reset

/-- R34: what STATUS always satisfies is kept by every step, from every state that
satisfies it. -/
def Obligations.StepKeepsStatusInvariant : Prop :=
  ∀ s t : State, StatusInv s → step s = .next t → StatusInv t

/-- R34, R50, R53, R54, R60, R394: the invariant of the core is kept by every step:
STATUS is consistent, memory is in canonical form and only mapped bytes are stored,
the matrix memory is well encoded and lies within MXN × MXN, the generator cache
holds only what it should, a low rst_n holds the reset state (R451), and STAGE
certifies the results it stands for: in GEOMETRY the cells are the geometry's, from
PLACED on every cell is resolved (R323, R367). -/
def Obligations.StepKeepsCoreInvariant : Prop :=
  ∀ s t : State, CoreInv s → step s = .next t → CoreInv t

/-- R60, R119: the generator cache is invisible: whatever it holds, a step gives the
same state but for the cache. -/
def Obligations.GeneratorCacheIsInvisible : Prop :=
  ∀ (s : State) (cache : List GenEntry), ∃ t u, step s = .next t ∧
    step { s with genCache := cache } = .next u ∧ sameButCache t u

/-- R451, R450: while rst_n is low the core stays in the reset state: every step keeps
that, from every state that satisfies it. -/
def Obligations.StepKeepsResetState : Prop :=
  ∀ s t : State, ResetInv s → step s = .next t → ResetInv t

/-! ## The ROMs -/

/-- R42 (c), (d), R43, R44, R245: what the spec says of every row of the version
tables. A second group has one data byte more per block than the first, and an absent
one has DATA 0; D falls from L over M
and Q to H; the alignment coordinates start with 6 and end with 4·v + 10, and version
1 has none; fewer than 8 bits remain. With DataCellCountMatchesStream, R42 (b), the
last fixes the total codewords of every version. -/
def Obligations.RomRowsSatisfyInvariants : Prop :=
  ∀ v, 1 ≤ v → v ≤ 40 →
    (∀ ecl : BitVec 2, (blockRom v ecl).data2 =
      if (blockRom v ecl).count2 = 0 then 0 else (blockRom v ecl).data1 + 1) ∧
    (let D := fun ecl : BitVec 2 => (blockRom v ecl).count1 * (blockRom v ecl).data1 +
        (blockRom v ecl).count2 * (blockRom v ecl).data2
     D 1 < D 0 ∧ D 2 < D 1 ∧ D 3 < D 2) ∧
    (v = 1 → alignRom v = []) ∧
    (2 ≤ v → (alignRom v).head? = some 6 ∧ (alignRom v).getLast? = some (4 * v + 10)) ∧
    remRom v < 8

end
end

