-- ==== Sys2Proof/Laws/Memory.lean ====
section
/-! SUPPORT. The laws of the memory operations: what a store leaves readable,
what it leaves alone, and that every operation keeps the canonical form. -/

namespace Sys2Proof.Machine

/-! ## Reading a list of entries -/

/-- The entry of an offset in a list of entries. -/
def Memory.entry? (m : Memory) (a : Nat) : Option Byte := (m.find? (fun c => c.1 == a)).map Prod.snd

theorem Memory.get?_eq (m : Memory) (a : Nat) :
    Memory.get? m a = (Memory.entry? m a).or (Memory.unlisted a) := by
  unfold Memory.get? Memory.entry?
  cases m.find? (fun c => c.1 == a) <;> rfl

@[simp] theorem Memory.entry?_nil (a : Nat) : Memory.entry? [] a = none := rfl

theorem Memory.entry?_cons (c : Host.Cell) (m : Memory) (a : Nat) :
    Memory.entry? (c :: m) a = if c.1 = a then some c.2 else Memory.entry? m a := by
  unfold Memory.entry?
  rw [List.find?_cons]
  by_cases h : c.1 = a
  · simp [h]
  · have : (c.1 == a) = false := by simpa using h
    simp [h, this]

theorem Memory.entry?_append (m n : Memory) (a : Nat) :
    Memory.entry? (m ++ n) a = (Memory.entry? m a).or (Memory.entry? n a) := by
  unfold Memory.entry?
  rw [List.find?_append]
  cases m.find? (fun c => c.1 == a) <;> rfl

/-- A filter by offset leaves the entries of the offsets it keeps, and no
other. -/
theorem Memory.entry?_filter (q : Nat → Bool) (m : Memory) (a : Nat) :
    Memory.entry? (m.filter (fun c => q c.1)) a = if q a then Memory.entry? m a else none := by
  induction m with
  | nil => simp
  | cons c m ih =>
    rw [List.filter_cons]
    by_cases hq : q c.1
    · rw [if_pos hq, Memory.entry?_cons, Memory.entry?_cons, ih]
      by_cases hc : c.1 = a
      · subst hc; simp [hq]
      · simp [hc]
    · rw [if_neg hq, ih, Memory.entry?_cons]
      by_cases hc : c.1 = a
      · subst hc; simp [hq]
      · simp [hc]

/-! ## Storing -/

theorem Memory.mem_entries {base : Nat} {bytes : List Byte} {c : Host.Cell}
    (h : c ∈ Memory.entries base bytes) :
    base ≤ c.1 ∧ c.1 < base + bytes.length ∧ Memory.unlisted c.1 ≠ some c.2 := by
  induction bytes generalizing base with
  | nil => simp [Memory.entries] at h
  | cons b bs ih =>
    rw [Memory.entries] at h
    split at h
    · obtain ⟨h1, h2, h3⟩ := ih h
      exact ⟨by omega, by simp only [List.length_cons]; omega, h3⟩
    · rcases List.mem_cons.mp h with rfl | h
      · exact ⟨le_refl _, by simp, by assumption⟩
      · obtain ⟨h1, h2, h3⟩ := ih h
        exact ⟨by omega, by simp only [List.length_cons]; omega, h3⟩

/-- What the stored bytes read as: at the offset of byte `i`, byte `i`. -/
theorem Memory.get?_entries (base : Nat) (bytes : List Byte) (a : Nat) :
    Memory.get? (Memory.entries base bytes) a =
      if base ≤ a then (bytes[a - base]?).or (Memory.unlisted a) else Memory.unlisted a := by
  induction bytes generalizing base with
  | nil => simp [Memory.entries, Memory.get?_eq]
  | cons b bs ih =>
    have hcons : ∀ h : Memory.unlisted base ≠ some b,
        Memory.get? ((base, b) :: Memory.entries (base + 1) bs) a =
          if base = a then some b else Memory.get? (Memory.entries (base + 1) bs) a := by
      intro _
      rw [Memory.get?_eq, Memory.entry?_cons, Memory.get?_eq]
      split <;> simp
    rw [Memory.entries]
    rcases Nat.lt_trichotomy a base with hlt | rfl | hgt
    · have h1 : ¬ base ≤ a := by omega
      have h2 : ¬ base + 1 ≤ a := by omega
      have h3 : ¬ base = a := by omega
      split
      · simp [ih, h2]
      · rename_i hu; simp [hcons hu, h3, ih, h2]
    · split
      · rename_i hu
        rw [ih, if_neg (by omega : ¬ a + 1 ≤ a)]
        simp [hu]
      · rename_i hu; rw [hcons hu]; simp
    · have h1 : base ≤ a := by omega
      have h2 : base + 1 ≤ a := by omega
      have h3 : ¬ base = a := by omega
      have h4 : a - base = (a - (base + 1)) + 1 := by omega
      split
      · simp [ih, h2, h4]
      · rename_i hu; simp [hcons hu, h3, ih, h2, h4]

/-- Read after write (20_memory.md R101, R120): a store gives the stored bytes at
their offsets and leaves every other offset as it was. -/
theorem Memory.get?_store (m : Memory) (base : Nat) (bytes : List Byte) (a : Nat) :
    Memory.get? (Memory.store m base bytes) a =
      if base ≤ a ∧ a < base + bytes.length then bytes[a - base]? else Memory.get? m a := by
  have hlow := Memory.entry?_filter (fun x => decide (x < base)) m a
  have hhigh := Memory.entry?_filter (fun x => decide (base + bytes.length ≤ x)) m a
  have hent := Memory.get?_entries base bytes a
  rw [Memory.get?_eq] at hent ⊢
  rw [Memory.get?_eq, Memory.store, Memory.entry?_append, Memory.entry?_append, hlow, hhigh]
  by_cases h1 : a < base
  · have he : Memory.entry? (Memory.entries base bytes) a = none := by
      unfold Memory.entry?
      rw [Option.map_eq_none_iff, List.find?_eq_none]
      intro c hc; have := (Memory.mem_entries hc).1; simp; omega
    simp [h1, he, show ¬ base ≤ a by omega, show ¬ base + bytes.length ≤ a by omega]
  · by_cases h2 : a < base + bytes.length
    · have hb : base ≤ a := by omega
      rw [if_pos hb] at hent
      have hs : ∃ y, bytes[a - base]? = some y :=
        ⟨_, List.getElem?_eq_getElem (by omega)⟩
      obtain ⟨y, hy⟩ := hs
      simp only [h1, hb, h2, hy, show ¬ base + bytes.length ≤ a by omega, decide_false,
        Bool.false_eq_true, if_false, Option.none_or, Option.or_none, and_self, if_true] at hent ⊢
      rw [hent]; rfl
    · have hb : base ≤ a := by omega
      have he : Memory.entry? (Memory.entries base bytes) a = none := by
        unfold Memory.entry?
        rw [Option.map_eq_none_iff, List.find?_eq_none]
        intro c hc; have := (Memory.mem_entries hc).2.1; simp; omega
      simp [h1, he, h2, show base + bytes.length ≤ a by omega]

theorem Memory.get?_store_outside {m : Memory} {base : Nat} {bytes : List Byte} {a : Nat}
    (h : a < base ∨ base + bytes.length ≤ a) :
    Memory.get? (Memory.store m base bytes) a = Memory.get? m a := by
  rw [Memory.get?_store, if_neg (by omega)]

/-- Clearing the matrix window (R301) makes every slot read 0 and leaves the
buffers alone. -/
theorem Memory.get?_clearMatrix (m : Memory) (a : Nat) :
    Memory.get? (Memory.clearMatrix m) a =
      if Region.matrix.holds a then some 0 else Memory.get? m a := by
  rw [Memory.get?_eq, Memory.get?_eq, Memory.clearMatrix,
    Memory.entry?_filter (fun x => !Region.matrix.holds x) m a]
  by_cases h : Region.matrix.holds a
  · simp [h, Memory.unlisted]
  · simp [h]

/-- A row store changes only the slots of the rows it stores. -/
theorem Memory.get?_storeRows_outside {m : Memory} {r a : Nat} {g : Grid}
    (h : ∀ i row, g[i]? = some row →
      a < slotOffset (r + i) 0 ∨ slotOffset (r + i) 0 + row.length ≤ a) :
    Memory.get? (Memory.storeRows m r g) a = Memory.get? m a := by
  induction g generalizing m r with
  | nil => rfl
  | cons row rows ih =>
    rw [Memory.storeRows, ih, Memory.get?_store_outside]
    · simpa using h 0 row rfl
    · intro i row' hi
      have := h (i + 1) row' (by simpa using hi)
      rwa [show r + 1 + i = r + (i + 1) by omega]

/-! ## Reading blocks -/

theorem Memory.read_eq (m : Memory) (draw a : Nat) :
    Memory.read m draw a = (Memory.get? m a).getD (Config.freeByte draw a) := rfl

/-- A block read gives the bytes of its offsets, one by one. -/
theorem Memory.readBlock_eq (m : Memory) (draw base n : Nat) :
    Memory.readBlock m draw base n =
      (List.range n).map (fun i => Memory.read m draw (base + i)) := by
  refine List.map_congr_left fun i hi => ?_
  have hi : i < n := List.mem_range.mp hi
  rw [Memory.read_eq, Memory.read_eq, Memory.get?_eq, Memory.get?_eq,
    Memory.entry?_filter (fun x => decide (base ≤ x) && decide (x < base + n)) m (base + i)]
  simp [hi]

@[simp] theorem Memory.readBlock_length (m : Memory) (draw base n : Nat) :
    (Memory.readBlock m draw base n).length = n := by simp [Memory.readBlock]

/-! ## The canonical form -/

theorem Memory.entries_sorted (base : Nat) (bytes : List Byte) :
    (Memory.entries base bytes).Pairwise (fun c d => c.1 < d.1) := by
  induction bytes generalizing base with
  | nil => exact List.Pairwise.nil
  | cons b bs ih =>
    rw [Memory.entries]
    split
    · exact ih _
    · refine List.Pairwise.cons (fun c hc => ?_) (ih _)
      have := (Memory.mem_entries hc).1
      exact this

theorem Memory.wf_nil : Memory.wf [] := ⟨List.Pairwise.nil, by simp⟩

/-- A store keeps the canonical form. -/
theorem Memory.wf_store {m : Memory} (h : Memory.wf m) (base : Nat) (bytes : List Byte) :
    Memory.wf (Memory.store m base bytes) := by
  obtain ⟨hs, hd⟩ := h
  constructor
  · unfold Memory.store
    rw [List.pairwise_append, List.pairwise_append]
    refine ⟨⟨hs.filter _, Memory.entries_sorted _ _, ?_⟩, hs.filter _, ?_⟩
    · intro c hc d hd'
      have h1 := (List.mem_filter.mp hc).2
      have h2 := (Memory.mem_entries hd').1
      simp at h1; omega
    · intro c hc d hd'
      have h2 := (List.mem_filter.mp hd').2
      simp at h2
      rcases List.mem_append.mp hc with hc | hc
      · have h1 := (List.mem_filter.mp hc).2
        simp at h1; omega
      · have h1 := (Memory.mem_entries hc).2.1
        omega
  · intro c hc
    unfold Memory.store at hc
    rcases List.mem_append.mp hc with hc | hc
    · rcases List.mem_append.mp hc with hc | hc
      · exact hd c (List.mem_filter.mp hc).1
      · exact (Memory.mem_entries hc).2.2
    · exact hd c (List.mem_filter.mp hc).1

/-- Clearing the matrix keeps the canonical form. -/
theorem Memory.wf_clearMatrix {m : Memory} (h : Memory.wf m) : Memory.wf (Memory.clearMatrix m) :=
  ⟨h.1.filter _, fun c hc => h.2 c (List.mem_filter.mp hc).1⟩

/-- Storing a grid keeps the canonical form. -/
theorem Memory.wf_storeRows {m : Memory} (h : Memory.wf m) (r : Nat) (g : Grid) :
    Memory.wf (Memory.storeRows m r g) := by
  induction g generalizing m r with
  | nil => exact h
  | cons row rows ih => exact ih (Memory.wf_store h _ _) _

/-- Every offset a store or an earlier entry made. -/
theorem Memory.mem_store {m : Memory} {base : Nat} {bytes : List Byte} {c : Host.Cell}
    (h : c ∈ Memory.store m base bytes) :
    c ∈ m ∨ (base ≤ c.1 ∧ c.1 < base + bytes.length) := by
  unfold Memory.store at h
  rcases List.mem_append.mp h with h | h
  · rcases List.mem_append.mp h with h | h
    · exact .inl (List.mem_filter.mp h).1
    · exact .inr ⟨(Memory.mem_entries h).1, (Memory.mem_entries h).2.1⟩
  · exact .inl (List.mem_filter.mp h).1

/-! ## Cells and grids -/

/-- The byte of a cell reads back as the cell (10_state.md R53). -/
@[simp] theorem MCell.ofByte_toByte (x : MCell) : MCell.ofByte x.toByte = x := by
  obtain ⟨st, fn⟩ := x
  cases st <;> cases fn <;> decide

@[simp] theorem Grid.set_length (g : Grid) (r c : Nat) (x : MCell) :
    (g.set r c x).length = g.length := by simp [Grid.set]

end Sys2Proof.Machine
end

