-- ==== Sys2Proof/Laws/Grid.lean ====
section
/-! SUPPORT. The laws of grids: reading after a write of a cell, and how a grid
stored in the matrix memory reads back. -/

namespace Sys2Proof.Machine

/-! ## Cells of a grid -/

theorem Grid.get_eq (g : Grid) (r c : Nat) :
    g.get r c = ((g[r]?.getD [])[c]?).getD MCell.empty := by
  simp [Grid.get]

/-- A write shows at its own cell, if the grid has it, and nowhere else. -/
theorem Grid.get_set (g : Grid) (r c r' c' : Nat) (x : MCell) :
    (g.set r c x).get r' c' =
      if r' = r ∧ c' = c ∧ r < g.length ∧ c < (g.getD r []).length then x else g.get r' c' := by
  simp only [Grid.get_eq, Grid.set, List.getElem?_modify]
  by_cases hr : r' = r
  · subst hr
    cases hg : g[r']? with
    | none =>
      have : ¬ r' < g.length := by simpa using hg
      simp [this]
    | some row =>
      have hl : r' < g.length := (List.getElem?_eq_some_iff.mp hg).1
      have hrow : g.getD r' [] = row := by simp [List.getD_eq_getElem?_getD, hg]
      simp only [if_true, Option.map_eq_map, Option.map_some, Option.getD_some, hl, hrow,
        true_and, List.getElem?_set]
      by_cases hc : c = c'
      · subst hc
        by_cases hlen : c < row.length
        · simp [hlen]
        · simp [hlen]
      · have : ¬ c' = c := fun h => hc h.symm
        simp [hc, this]
  · have : ¬ r = r' := fun h => hr h.symm
    simp only [this, hr, if_false, false_and]
    cases g[r']? <;> rfl

/-- The rows keep their lengths under a write. -/
theorem Grid.set_rowLength (g : Grid) (r c r' : Nat) (x : MCell) :
    ((g.set r c x).getD r' []).length = (g.getD r' []).length := by
  simp only [Grid.set, List.getD_eq_getElem?_getD, List.getElem?_modify]
  by_cases h : r = r'
  · subst h; cases g[r]? <;> simp
  · cases g[r']? <;> simp [h]

/-! ## Reading a grid from memory -/

@[simp] theorem State.readGrid_length (s : State) (n : Nat) : (s.readGrid n).length = n := by
  simp [State.readGrid]

/-- The cell of the grid that `readGrid` gives is the cell of its slot. -/
theorem State.readGrid_get (s : State) {n r c : Nat} (hr : r < n) (hc : c < n) :
    (s.readGrid n).get r c = MCell.ofByte (Memory.read s.mem s.draws (slotOffset r c)) := by
  have hoff : slotOffset r 0 + c = slotOffset r c := by simp [slotOffset]
  simp [Grid.get_eq, State.readGrid, hr, hc, Memory.readBlock_eq, hoff]

/-! ## Storing a grid -/

/-- A slot of a stored row reads back as its cell's byte (R53). -/
theorem Memory.get?_storeRows (m : Memory) (r : Nat) (g : Grid) (i c : Nat) (x : MCell)
    (hrow : ∀ row ∈ g, row.length ≤ 256) (hx : (g[i]?.getD [])[c]? = some x) :
    Memory.get? (Memory.storeRows m r g) (slotOffset (r + i) c) = some x.toByte := by
  induction g generalizing m r i with
  | nil => simp at hx
  | cons row rows ih =>
    have hs : ∀ q d, slotOffset q d = 0x10000 + 256 * q + d := by intro q d; rfl
    cases i with
    | zero =>
      simp only [List.getElem?_cons_zero, Option.getD_some] at hx
      have hc : c < row.length := (List.getElem?_eq_some_iff.mp hx).1
      have hle := hrow row (List.mem_cons_self ..)
      rw [Memory.storeRows, Memory.get?_storeRows_outside, Memory.get?_store, if_pos]
      · have : slotOffset (r + 0) c - slotOffset r 0 = c := by simp only [hs]; omega
        rw [this, List.getElem?_map, hx]
        rfl
      · simp only [hs, List.length_map]; omega
      · intro j row' _
        left
        simp only [hs]; omega
    | succ i =>
      simp only [List.getElem?_cons_succ] at hx
      have := ih (m := Memory.store m (slotOffset r 0) (row.map MCell.toByte)) (r := r + 1) i
        (fun q hq => hrow q (List.mem_cons_of_mem _ hq)) hx
      rw [Memory.storeRows, show r + (i + 1) = r + 1 + i by omega]
      exact this

end Sys2Proof.Machine
end

