-- ==== Sys2Proof/Laws/State.lean ====
section
/-! SUPPORT. One lemma per field per update of State, each true by rfl, so that
no later proof unfolds a record update. -/

namespace Sys2Proof.Machine

/-! ## setResult -/

@[simp] theorem State.setResult_ctrlIE (s : State) (r : Word) : (s.setResult r).ctrlIE = s.ctrlIE := rfl
@[simp] theorem State.setResult_cmd (s : State) (r : Word) : (s.setResult r).cmd = s.cmd := rfl
@[simp] theorem State.setResult_status (s : State) (r : Word) : (s.setResult r).status = s.status := rfl
@[simp] theorem State.setResult_errInfo (s : State) (r : Word) : (s.setResult r).errInfo = s.errInfo := rfl
@[simp] theorem State.setResult_config (s : State) (r : Word) : (s.setResult r).config = s.config := rfl
@[simp] theorem State.setResult_payloadLen (s : State) (r : Word) : (s.setResult r).payloadLen = s.payloadLen := rfl
@[simp] theorem State.setResult_opa (s : State) (r : Word) : (s.setResult r).opa = s.opa := rfl
@[simp] theorem State.setResult_opb (s : State) (r : Word) : (s.setResult r).opb = s.opb := rfl
@[simp] theorem State.setResult_result (s : State) (r : Word) : (s.setResult r).result = r := rfl
@[simp] theorem State.setResult_rsCfg (s : State) (r : Word) : (s.setResult r).rsCfg = s.rsCfg := rfl
@[simp] theorem State.setResult_arMode (s : State) (r : Word) : (s.setResult r).arMode = s.arMode := rfl
@[simp] theorem State.setResult_arCount (s : State) (r : Word) : (s.setResult r).arCount = s.arCount := rfl
@[simp] theorem State.setResult_arPbits (s : State) (r : Word) : (s.setResult r).arPbits = s.arPbits := rfl
@[simp] theorem State.setResult_arVersion (s : State) (r : Word) : (s.setResult r).arVersion = s.arVersion := rfl
@[simp] theorem State.setResult_arReqbits (s : State) (r : Word) : (s.setResult r).arReqbits = s.arReqbits := rfl
@[simp] theorem State.setResult_capBits (s : State) (r : Word) : (s.setResult r).capBits = s.capBits := rfl
@[simp] theorem State.setResult_dcwLen (s : State) (r : Word) : (s.setResult r).dcwLen = s.dcwLen := rfl
@[simp] theorem State.setResult_finalLen (s : State) (r : Word) : (s.setResult r).finalLen = s.finalLen := rfl
@[simp] theorem State.setResult_streamBits (s : State) (r : Word) : (s.setResult r).streamBits = s.streamBits := rfl
@[simp] theorem State.setResult_blkG1 (s : State) (r : Word) : (s.setResult r).blkG1 = s.blkG1 := rfl
@[simp] theorem State.setResult_blkG2 (s : State) (r : Word) : (s.setResult r).blkG2 = s.blkG2 := rfl
@[simp] theorem State.setResult_maskSel (s : State) (r : Word) : (s.setResult r).maskSel = s.maskSel := rfl
@[simp] theorem State.setResult_formatBits (s : State) (r : Word) : (s.setResult r).formatBits = s.formatBits := rfl
@[simp] theorem State.setResult_versionBits (s : State) (r : Word) : (s.setResult r).versionBits = s.versionBits := rfl
@[simp] theorem State.setResult_placedBits (s : State) (r : Word) : (s.setResult r).placedBits = s.placedBits := rfl
@[simp] theorem State.setResult_penalty (s : State) (r : Word) : (s.setResult r).penalty = s.penalty := rfl
@[simp] theorem State.setResult_penRule (s : State) (r : Word) : (s.setResult r).penRule = s.penRule := rfl
@[simp] theorem State.setResult_mem (s : State) (r : Word) : (s.setResult r).mem = s.mem := rfl
@[simp] theorem State.setResult_mxn (s : State) (r : Word) : (s.setResult r).mxn = s.mxn := rfl
@[simp] theorem State.setResult_genCache (s : State) (r : Word) : (s.setResult r).genCache = s.genCache := rfl
@[simp] theorem State.setResult_rstN (s : State) (r : Word) : (s.setResult r).rstN = s.rstN := rfl
@[simp] theorem State.setResult_wait (s : State) (r : Word) : (s.setResult r).wait = s.wait := rfl
@[simp] theorem State.setResult_latencies (s : State) (r : Word) : (s.setResult r).latencies = s.latencies := rfl
@[simp] theorem State.setResult_inbox (s : State) (r : Word) : (s.setResult r).inbox = s.inbox := rfl
@[simp] theorem State.setResult_outbox (s : State) (r : Word) : (s.setResult r).outbox = s.outbox := rfl
@[simp] theorem State.setResult_draws (s : State) (r : Word) : (s.setResult r).draws = s.draws := rfl

/-! ## setStage -/

@[simp] theorem State.setStage_ctrlIE (s : State) (g : Stage) : (s.setStage g).ctrlIE = s.ctrlIE := rfl
@[simp] theorem State.setStage_cmd (s : State) (g : Stage) : (s.setStage g).cmd = s.cmd := rfl
@[simp] theorem State.setStage_status (s : State) (g : Stage) : (s.setStage g).status = s.status.withStage g := rfl
@[simp] theorem State.setStage_errInfo (s : State) (g : Stage) : (s.setStage g).errInfo = s.errInfo := rfl
@[simp] theorem State.setStage_config (s : State) (g : Stage) : (s.setStage g).config = s.config := rfl
@[simp] theorem State.setStage_payloadLen (s : State) (g : Stage) : (s.setStage g).payloadLen = s.payloadLen := rfl
@[simp] theorem State.setStage_opa (s : State) (g : Stage) : (s.setStage g).opa = s.opa := rfl
@[simp] theorem State.setStage_opb (s : State) (g : Stage) : (s.setStage g).opb = s.opb := rfl
@[simp] theorem State.setStage_result (s : State) (g : Stage) : (s.setStage g).result = s.result := rfl
@[simp] theorem State.setStage_rsCfg (s : State) (g : Stage) : (s.setStage g).rsCfg = s.rsCfg := rfl
@[simp] theorem State.setStage_arMode (s : State) (g : Stage) : (s.setStage g).arMode = s.arMode := rfl
@[simp] theorem State.setStage_arCount (s : State) (g : Stage) : (s.setStage g).arCount = s.arCount := rfl
@[simp] theorem State.setStage_arPbits (s : State) (g : Stage) : (s.setStage g).arPbits = s.arPbits := rfl
@[simp] theorem State.setStage_arVersion (s : State) (g : Stage) : (s.setStage g).arVersion = s.arVersion := rfl
@[simp] theorem State.setStage_arReqbits (s : State) (g : Stage) : (s.setStage g).arReqbits = s.arReqbits := rfl
@[simp] theorem State.setStage_capBits (s : State) (g : Stage) : (s.setStage g).capBits = s.capBits := rfl
@[simp] theorem State.setStage_dcwLen (s : State) (g : Stage) : (s.setStage g).dcwLen = s.dcwLen := rfl
@[simp] theorem State.setStage_finalLen (s : State) (g : Stage) : (s.setStage g).finalLen = s.finalLen := rfl
@[simp] theorem State.setStage_streamBits (s : State) (g : Stage) : (s.setStage g).streamBits = s.streamBits := rfl
@[simp] theorem State.setStage_blkG1 (s : State) (g : Stage) : (s.setStage g).blkG1 = s.blkG1 := rfl
@[simp] theorem State.setStage_blkG2 (s : State) (g : Stage) : (s.setStage g).blkG2 = s.blkG2 := rfl
@[simp] theorem State.setStage_maskSel (s : State) (g : Stage) : (s.setStage g).maskSel = s.maskSel := rfl
@[simp] theorem State.setStage_formatBits (s : State) (g : Stage) : (s.setStage g).formatBits = s.formatBits := rfl
@[simp] theorem State.setStage_versionBits (s : State) (g : Stage) : (s.setStage g).versionBits = s.versionBits := rfl
@[simp] theorem State.setStage_placedBits (s : State) (g : Stage) : (s.setStage g).placedBits = s.placedBits := rfl
@[simp] theorem State.setStage_penalty (s : State) (g : Stage) : (s.setStage g).penalty = s.penalty := rfl
@[simp] theorem State.setStage_penRule (s : State) (g : Stage) : (s.setStage g).penRule = s.penRule := rfl
@[simp] theorem State.setStage_mem (s : State) (g : Stage) : (s.setStage g).mem = s.mem := rfl
@[simp] theorem State.setStage_mxn (s : State) (g : Stage) : (s.setStage g).mxn = s.mxn := rfl
@[simp] theorem State.setStage_genCache (s : State) (g : Stage) : (s.setStage g).genCache = s.genCache := rfl
@[simp] theorem State.setStage_rstN (s : State) (g : Stage) : (s.setStage g).rstN = s.rstN := rfl
@[simp] theorem State.setStage_wait (s : State) (g : Stage) : (s.setStage g).wait = s.wait := rfl
@[simp] theorem State.setStage_latencies (s : State) (g : Stage) : (s.setStage g).latencies = s.latencies := rfl
@[simp] theorem State.setStage_inbox (s : State) (g : Stage) : (s.setStage g).inbox = s.inbox := rfl
@[simp] theorem State.setStage_outbox (s : State) (g : Stage) : (s.setStage g).outbox = s.outbox := rfl
@[simp] theorem State.setStage_draws (s : State) (g : Stage) : (s.setStage g).draws = s.draws := rfl

/-! ## complete -/

@[simp] theorem State.complete_ctrlIE (s : State) : s.complete.ctrlIE = s.ctrlIE := rfl
@[simp] theorem State.complete_cmd (s : State) : s.complete.cmd = s.cmd := rfl
@[simp] theorem State.complete_status (s : State) : s.complete.status = s.status.completed := rfl
@[simp] theorem State.complete_errInfo (s : State) : s.complete.errInfo = s.errInfo := rfl
@[simp] theorem State.complete_config (s : State) : s.complete.config = s.config := rfl
@[simp] theorem State.complete_payloadLen (s : State) : s.complete.payloadLen = s.payloadLen := rfl
@[simp] theorem State.complete_opa (s : State) : s.complete.opa = s.opa := rfl
@[simp] theorem State.complete_opb (s : State) : s.complete.opb = s.opb := rfl
@[simp] theorem State.complete_result (s : State) : s.complete.result = s.result := rfl
@[simp] theorem State.complete_rsCfg (s : State) : s.complete.rsCfg = s.rsCfg := rfl
@[simp] theorem State.complete_arMode (s : State) : s.complete.arMode = s.arMode := rfl
@[simp] theorem State.complete_arCount (s : State) : s.complete.arCount = s.arCount := rfl
@[simp] theorem State.complete_arPbits (s : State) : s.complete.arPbits = s.arPbits := rfl
@[simp] theorem State.complete_arVersion (s : State) : s.complete.arVersion = s.arVersion := rfl
@[simp] theorem State.complete_arReqbits (s : State) : s.complete.arReqbits = s.arReqbits := rfl
@[simp] theorem State.complete_capBits (s : State) : s.complete.capBits = s.capBits := rfl
@[simp] theorem State.complete_dcwLen (s : State) : s.complete.dcwLen = s.dcwLen := rfl
@[simp] theorem State.complete_finalLen (s : State) : s.complete.finalLen = s.finalLen := rfl
@[simp] theorem State.complete_streamBits (s : State) : s.complete.streamBits = s.streamBits := rfl
@[simp] theorem State.complete_blkG1 (s : State) : s.complete.blkG1 = s.blkG1 := rfl
@[simp] theorem State.complete_blkG2 (s : State) : s.complete.blkG2 = s.blkG2 := rfl
@[simp] theorem State.complete_maskSel (s : State) : s.complete.maskSel = s.maskSel := rfl
@[simp] theorem State.complete_formatBits (s : State) : s.complete.formatBits = s.formatBits := rfl
@[simp] theorem State.complete_versionBits (s : State) : s.complete.versionBits = s.versionBits := rfl
@[simp] theorem State.complete_placedBits (s : State) : s.complete.placedBits = s.placedBits := rfl
@[simp] theorem State.complete_penalty (s : State) : s.complete.penalty = s.penalty := rfl
@[simp] theorem State.complete_penRule (s : State) : s.complete.penRule = s.penRule := rfl
@[simp] theorem State.complete_mem (s : State) : s.complete.mem = s.mem := rfl
@[simp] theorem State.complete_mxn (s : State) : s.complete.mxn = s.mxn := rfl
@[simp] theorem State.complete_genCache (s : State) : s.complete.genCache = s.genCache := rfl
@[simp] theorem State.complete_rstN (s : State) : s.complete.rstN = s.rstN := rfl
@[simp] theorem State.complete_wait (s : State) : s.complete.wait = s.wait := rfl
@[simp] theorem State.complete_latencies (s : State) : s.complete.latencies = s.latencies := rfl
@[simp] theorem State.complete_inbox (s : State) : s.complete.inbox = s.inbox := rfl
@[simp] theorem State.complete_outbox (s : State) : s.complete.outbox = s.outbox := rfl
@[simp] theorem State.complete_draws (s : State) : s.complete.draws = s.draws := rfl

/-! ## drawn -/

@[simp] theorem State.drawn_ctrlIE (s : State) : s.drawn.ctrlIE = s.ctrlIE := rfl
@[simp] theorem State.drawn_cmd (s : State) : s.drawn.cmd = s.cmd := rfl
@[simp] theorem State.drawn_status (s : State) : s.drawn.status = s.status := rfl
@[simp] theorem State.drawn_errInfo (s : State) : s.drawn.errInfo = s.errInfo := rfl
@[simp] theorem State.drawn_config (s : State) : s.drawn.config = s.config := rfl
@[simp] theorem State.drawn_payloadLen (s : State) : s.drawn.payloadLen = s.payloadLen := rfl
@[simp] theorem State.drawn_opa (s : State) : s.drawn.opa = s.opa := rfl
@[simp] theorem State.drawn_opb (s : State) : s.drawn.opb = s.opb := rfl
@[simp] theorem State.drawn_result (s : State) : s.drawn.result = s.result := rfl
@[simp] theorem State.drawn_rsCfg (s : State) : s.drawn.rsCfg = s.rsCfg := rfl
@[simp] theorem State.drawn_arMode (s : State) : s.drawn.arMode = s.arMode := rfl
@[simp] theorem State.drawn_arCount (s : State) : s.drawn.arCount = s.arCount := rfl
@[simp] theorem State.drawn_arPbits (s : State) : s.drawn.arPbits = s.arPbits := rfl
@[simp] theorem State.drawn_arVersion (s : State) : s.drawn.arVersion = s.arVersion := rfl
@[simp] theorem State.drawn_arReqbits (s : State) : s.drawn.arReqbits = s.arReqbits := rfl
@[simp] theorem State.drawn_capBits (s : State) : s.drawn.capBits = s.capBits := rfl
@[simp] theorem State.drawn_dcwLen (s : State) : s.drawn.dcwLen = s.dcwLen := rfl
@[simp] theorem State.drawn_finalLen (s : State) : s.drawn.finalLen = s.finalLen := rfl
@[simp] theorem State.drawn_streamBits (s : State) : s.drawn.streamBits = s.streamBits := rfl
@[simp] theorem State.drawn_blkG1 (s : State) : s.drawn.blkG1 = s.blkG1 := rfl
@[simp] theorem State.drawn_blkG2 (s : State) : s.drawn.blkG2 = s.blkG2 := rfl
@[simp] theorem State.drawn_maskSel (s : State) : s.drawn.maskSel = s.maskSel := rfl
@[simp] theorem State.drawn_formatBits (s : State) : s.drawn.formatBits = s.formatBits := rfl
@[simp] theorem State.drawn_versionBits (s : State) : s.drawn.versionBits = s.versionBits := rfl
@[simp] theorem State.drawn_placedBits (s : State) : s.drawn.placedBits = s.placedBits := rfl
@[simp] theorem State.drawn_penalty (s : State) : s.drawn.penalty = s.penalty := rfl
@[simp] theorem State.drawn_penRule (s : State) : s.drawn.penRule = s.penRule := rfl
@[simp] theorem State.drawn_mem (s : State) : s.drawn.mem = s.mem := rfl
@[simp] theorem State.drawn_mxn (s : State) : s.drawn.mxn = s.mxn := rfl
@[simp] theorem State.drawn_genCache (s : State) : s.drawn.genCache = s.genCache := rfl
@[simp] theorem State.drawn_rstN (s : State) : s.drawn.rstN = s.rstN := rfl
@[simp] theorem State.drawn_wait (s : State) : s.drawn.wait = s.wait := rfl
@[simp] theorem State.drawn_latencies (s : State) : s.drawn.latencies = s.latencies := rfl
@[simp] theorem State.drawn_inbox (s : State) : s.drawn.inbox = s.inbox := rfl
@[simp] theorem State.drawn_outbox (s : State) : s.drawn.outbox = s.outbox := rfl
@[simp] theorem State.drawn_draws (s : State) : s.drawn.draws = s.draws + 1 := rfl

/-! ## writeBuf -/

@[simp] theorem State.writeBuf_ctrlIE (s : State) (g : Region) (b : List Byte) : (s.writeBuf g b).ctrlIE = s.ctrlIE := rfl
@[simp] theorem State.writeBuf_cmd (s : State) (g : Region) (b : List Byte) : (s.writeBuf g b).cmd = s.cmd := rfl
@[simp] theorem State.writeBuf_status (s : State) (g : Region) (b : List Byte) : (s.writeBuf g b).status = s.status := rfl
@[simp] theorem State.writeBuf_errInfo (s : State) (g : Region) (b : List Byte) : (s.writeBuf g b).errInfo = s.errInfo := rfl
@[simp] theorem State.writeBuf_config (s : State) (g : Region) (b : List Byte) : (s.writeBuf g b).config = s.config := rfl
@[simp] theorem State.writeBuf_payloadLen (s : State) (g : Region) (b : List Byte) : (s.writeBuf g b).payloadLen = s.payloadLen := rfl
@[simp] theorem State.writeBuf_opa (s : State) (g : Region) (b : List Byte) : (s.writeBuf g b).opa = s.opa := rfl
@[simp] theorem State.writeBuf_opb (s : State) (g : Region) (b : List Byte) : (s.writeBuf g b).opb = s.opb := rfl
@[simp] theorem State.writeBuf_result (s : State) (g : Region) (b : List Byte) : (s.writeBuf g b).result = s.result := rfl
@[simp] theorem State.writeBuf_rsCfg (s : State) (g : Region) (b : List Byte) : (s.writeBuf g b).rsCfg = s.rsCfg := rfl
@[simp] theorem State.writeBuf_arMode (s : State) (g : Region) (b : List Byte) : (s.writeBuf g b).arMode = s.arMode := rfl
@[simp] theorem State.writeBuf_arCount (s : State) (g : Region) (b : List Byte) : (s.writeBuf g b).arCount = s.arCount := rfl
@[simp] theorem State.writeBuf_arPbits (s : State) (g : Region) (b : List Byte) : (s.writeBuf g b).arPbits = s.arPbits := rfl
@[simp] theorem State.writeBuf_arVersion (s : State) (g : Region) (b : List Byte) : (s.writeBuf g b).arVersion = s.arVersion := rfl
@[simp] theorem State.writeBuf_arReqbits (s : State) (g : Region) (b : List Byte) : (s.writeBuf g b).arReqbits = s.arReqbits := rfl
@[simp] theorem State.writeBuf_capBits (s : State) (g : Region) (b : List Byte) : (s.writeBuf g b).capBits = s.capBits := rfl
@[simp] theorem State.writeBuf_dcwLen (s : State) (g : Region) (b : List Byte) : (s.writeBuf g b).dcwLen = s.dcwLen := rfl
@[simp] theorem State.writeBuf_finalLen (s : State) (g : Region) (b : List Byte) : (s.writeBuf g b).finalLen = s.finalLen := rfl
@[simp] theorem State.writeBuf_streamBits (s : State) (g : Region) (b : List Byte) : (s.writeBuf g b).streamBits = s.streamBits := rfl
@[simp] theorem State.writeBuf_blkG1 (s : State) (g : Region) (b : List Byte) : (s.writeBuf g b).blkG1 = s.blkG1 := rfl
@[simp] theorem State.writeBuf_blkG2 (s : State) (g : Region) (b : List Byte) : (s.writeBuf g b).blkG2 = s.blkG2 := rfl
@[simp] theorem State.writeBuf_maskSel (s : State) (g : Region) (b : List Byte) : (s.writeBuf g b).maskSel = s.maskSel := rfl
@[simp] theorem State.writeBuf_formatBits (s : State) (g : Region) (b : List Byte) : (s.writeBuf g b).formatBits = s.formatBits := rfl
@[simp] theorem State.writeBuf_versionBits (s : State) (g : Region) (b : List Byte) : (s.writeBuf g b).versionBits = s.versionBits := rfl
@[simp] theorem State.writeBuf_placedBits (s : State) (g : Region) (b : List Byte) : (s.writeBuf g b).placedBits = s.placedBits := rfl
@[simp] theorem State.writeBuf_penalty (s : State) (g : Region) (b : List Byte) : (s.writeBuf g b).penalty = s.penalty := rfl
@[simp] theorem State.writeBuf_penRule (s : State) (g : Region) (b : List Byte) : (s.writeBuf g b).penRule = s.penRule := rfl
@[simp] theorem State.writeBuf_mem (s : State) (g : Region) (b : List Byte) : (s.writeBuf g b).mem = Memory.store s.mem g.base b := rfl
@[simp] theorem State.writeBuf_mxn (s : State) (g : Region) (b : List Byte) : (s.writeBuf g b).mxn = s.mxn := rfl
@[simp] theorem State.writeBuf_genCache (s : State) (g : Region) (b : List Byte) : (s.writeBuf g b).genCache = s.genCache := rfl
@[simp] theorem State.writeBuf_rstN (s : State) (g : Region) (b : List Byte) : (s.writeBuf g b).rstN = s.rstN := rfl
@[simp] theorem State.writeBuf_wait (s : State) (g : Region) (b : List Byte) : (s.writeBuf g b).wait = s.wait := rfl
@[simp] theorem State.writeBuf_latencies (s : State) (g : Region) (b : List Byte) : (s.writeBuf g b).latencies = s.latencies := rfl
@[simp] theorem State.writeBuf_inbox (s : State) (g : Region) (b : List Byte) : (s.writeBuf g b).inbox = s.inbox := rfl
@[simp] theorem State.writeBuf_outbox (s : State) (g : Region) (b : List Byte) : (s.writeBuf g b).outbox = s.outbox := rfl
@[simp] theorem State.writeBuf_draws (s : State) (g : Region) (b : List Byte) : (s.writeBuf g b).draws = s.draws := rfl

/-! ## writeGrid -/

@[simp] theorem State.writeGrid_ctrlIE (s : State) (g : Grid) : (s.writeGrid g).ctrlIE = s.ctrlIE := rfl
@[simp] theorem State.writeGrid_cmd (s : State) (g : Grid) : (s.writeGrid g).cmd = s.cmd := rfl
@[simp] theorem State.writeGrid_status (s : State) (g : Grid) : (s.writeGrid g).status = s.status := rfl
@[simp] theorem State.writeGrid_errInfo (s : State) (g : Grid) : (s.writeGrid g).errInfo = s.errInfo := rfl
@[simp] theorem State.writeGrid_config (s : State) (g : Grid) : (s.writeGrid g).config = s.config := rfl
@[simp] theorem State.writeGrid_payloadLen (s : State) (g : Grid) : (s.writeGrid g).payloadLen = s.payloadLen := rfl
@[simp] theorem State.writeGrid_opa (s : State) (g : Grid) : (s.writeGrid g).opa = s.opa := rfl
@[simp] theorem State.writeGrid_opb (s : State) (g : Grid) : (s.writeGrid g).opb = s.opb := rfl
@[simp] theorem State.writeGrid_result (s : State) (g : Grid) : (s.writeGrid g).result = s.result := rfl
@[simp] theorem State.writeGrid_rsCfg (s : State) (g : Grid) : (s.writeGrid g).rsCfg = s.rsCfg := rfl
@[simp] theorem State.writeGrid_arMode (s : State) (g : Grid) : (s.writeGrid g).arMode = s.arMode := rfl
@[simp] theorem State.writeGrid_arCount (s : State) (g : Grid) : (s.writeGrid g).arCount = s.arCount := rfl
@[simp] theorem State.writeGrid_arPbits (s : State) (g : Grid) : (s.writeGrid g).arPbits = s.arPbits := rfl
@[simp] theorem State.writeGrid_arVersion (s : State) (g : Grid) : (s.writeGrid g).arVersion = s.arVersion := rfl
@[simp] theorem State.writeGrid_arReqbits (s : State) (g : Grid) : (s.writeGrid g).arReqbits = s.arReqbits := rfl
@[simp] theorem State.writeGrid_capBits (s : State) (g : Grid) : (s.writeGrid g).capBits = s.capBits := rfl
@[simp] theorem State.writeGrid_dcwLen (s : State) (g : Grid) : (s.writeGrid g).dcwLen = s.dcwLen := rfl
@[simp] theorem State.writeGrid_finalLen (s : State) (g : Grid) : (s.writeGrid g).finalLen = s.finalLen := rfl
@[simp] theorem State.writeGrid_streamBits (s : State) (g : Grid) : (s.writeGrid g).streamBits = s.streamBits := rfl
@[simp] theorem State.writeGrid_blkG1 (s : State) (g : Grid) : (s.writeGrid g).blkG1 = s.blkG1 := rfl
@[simp] theorem State.writeGrid_blkG2 (s : State) (g : Grid) : (s.writeGrid g).blkG2 = s.blkG2 := rfl
@[simp] theorem State.writeGrid_maskSel (s : State) (g : Grid) : (s.writeGrid g).maskSel = s.maskSel := rfl
@[simp] theorem State.writeGrid_formatBits (s : State) (g : Grid) : (s.writeGrid g).formatBits = s.formatBits := rfl
@[simp] theorem State.writeGrid_versionBits (s : State) (g : Grid) : (s.writeGrid g).versionBits = s.versionBits := rfl
@[simp] theorem State.writeGrid_placedBits (s : State) (g : Grid) : (s.writeGrid g).placedBits = s.placedBits := rfl
@[simp] theorem State.writeGrid_penalty (s : State) (g : Grid) : (s.writeGrid g).penalty = s.penalty := rfl
@[simp] theorem State.writeGrid_penRule (s : State) (g : Grid) : (s.writeGrid g).penRule = s.penRule := rfl
@[simp] theorem State.writeGrid_mem (s : State) (g : Grid) : (s.writeGrid g).mem = Memory.storeRows s.mem 0 g := rfl
@[simp] theorem State.writeGrid_mxn (s : State) (g : Grid) : (s.writeGrid g).mxn = s.mxn := rfl
@[simp] theorem State.writeGrid_genCache (s : State) (g : Grid) : (s.writeGrid g).genCache = s.genCache := rfl
@[simp] theorem State.writeGrid_rstN (s : State) (g : Grid) : (s.writeGrid g).rstN = s.rstN := rfl
@[simp] theorem State.writeGrid_wait (s : State) (g : Grid) : (s.writeGrid g).wait = s.wait := rfl
@[simp] theorem State.writeGrid_latencies (s : State) (g : Grid) : (s.writeGrid g).latencies = s.latencies := rfl
@[simp] theorem State.writeGrid_inbox (s : State) (g : Grid) : (s.writeGrid g).inbox = s.inbox := rfl
@[simp] theorem State.writeGrid_outbox (s : State) (g : Grid) : (s.writeGrid g).outbox = s.outbox := rfl
@[simp] theorem State.writeGrid_draws (s : State) (g : Grid) : (s.writeGrid g).draws = s.draws := rfl

/-! ## usesGenerator -/

@[simp] theorem State.usesGenerator_ctrlIE (s : State) (n : Nat) : (s.usesGenerator n).ctrlIE = s.ctrlIE := rfl
@[simp] theorem State.usesGenerator_cmd (s : State) (n : Nat) : (s.usesGenerator n).cmd = s.cmd := rfl
@[simp] theorem State.usesGenerator_status (s : State) (n : Nat) : (s.usesGenerator n).status = s.status := rfl
@[simp] theorem State.usesGenerator_errInfo (s : State) (n : Nat) : (s.usesGenerator n).errInfo = s.errInfo := rfl
@[simp] theorem State.usesGenerator_config (s : State) (n : Nat) : (s.usesGenerator n).config = s.config := rfl
@[simp] theorem State.usesGenerator_payloadLen (s : State) (n : Nat) : (s.usesGenerator n).payloadLen = s.payloadLen := rfl
@[simp] theorem State.usesGenerator_opa (s : State) (n : Nat) : (s.usesGenerator n).opa = s.opa := rfl
@[simp] theorem State.usesGenerator_opb (s : State) (n : Nat) : (s.usesGenerator n).opb = s.opb := rfl
@[simp] theorem State.usesGenerator_result (s : State) (n : Nat) : (s.usesGenerator n).result = s.result := rfl
@[simp] theorem State.usesGenerator_rsCfg (s : State) (n : Nat) : (s.usesGenerator n).rsCfg = s.rsCfg := rfl
@[simp] theorem State.usesGenerator_arMode (s : State) (n : Nat) : (s.usesGenerator n).arMode = s.arMode := rfl
@[simp] theorem State.usesGenerator_arCount (s : State) (n : Nat) : (s.usesGenerator n).arCount = s.arCount := rfl
@[simp] theorem State.usesGenerator_arPbits (s : State) (n : Nat) : (s.usesGenerator n).arPbits = s.arPbits := rfl
@[simp] theorem State.usesGenerator_arVersion (s : State) (n : Nat) : (s.usesGenerator n).arVersion = s.arVersion := rfl
@[simp] theorem State.usesGenerator_arReqbits (s : State) (n : Nat) : (s.usesGenerator n).arReqbits = s.arReqbits := rfl
@[simp] theorem State.usesGenerator_capBits (s : State) (n : Nat) : (s.usesGenerator n).capBits = s.capBits := rfl
@[simp] theorem State.usesGenerator_dcwLen (s : State) (n : Nat) : (s.usesGenerator n).dcwLen = s.dcwLen := rfl
@[simp] theorem State.usesGenerator_finalLen (s : State) (n : Nat) : (s.usesGenerator n).finalLen = s.finalLen := rfl
@[simp] theorem State.usesGenerator_streamBits (s : State) (n : Nat) : (s.usesGenerator n).streamBits = s.streamBits := rfl
@[simp] theorem State.usesGenerator_blkG1 (s : State) (n : Nat) : (s.usesGenerator n).blkG1 = s.blkG1 := rfl
@[simp] theorem State.usesGenerator_blkG2 (s : State) (n : Nat) : (s.usesGenerator n).blkG2 = s.blkG2 := rfl
@[simp] theorem State.usesGenerator_maskSel (s : State) (n : Nat) : (s.usesGenerator n).maskSel = s.maskSel := rfl
@[simp] theorem State.usesGenerator_formatBits (s : State) (n : Nat) : (s.usesGenerator n).formatBits = s.formatBits := rfl
@[simp] theorem State.usesGenerator_versionBits (s : State) (n : Nat) : (s.usesGenerator n).versionBits = s.versionBits := rfl
@[simp] theorem State.usesGenerator_placedBits (s : State) (n : Nat) : (s.usesGenerator n).placedBits = s.placedBits := rfl
@[simp] theorem State.usesGenerator_penalty (s : State) (n : Nat) : (s.usesGenerator n).penalty = s.penalty := rfl
@[simp] theorem State.usesGenerator_penRule (s : State) (n : Nat) : (s.usesGenerator n).penRule = s.penRule := rfl
@[simp] theorem State.usesGenerator_mem (s : State) (n : Nat) : (s.usesGenerator n).mem = s.mem := rfl
@[simp] theorem State.usesGenerator_mxn (s : State) (n : Nat) : (s.usesGenerator n).mxn = s.mxn := rfl
@[simp] theorem State.usesGenerator_genCache (s : State) (n : Nat) : (s.usesGenerator n).genCache = cacheGenerator n s.genCache := rfl
@[simp] theorem State.usesGenerator_rstN (s : State) (n : Nat) : (s.usesGenerator n).rstN = s.rstN := rfl
@[simp] theorem State.usesGenerator_wait (s : State) (n : Nat) : (s.usesGenerator n).wait = s.wait := rfl
@[simp] theorem State.usesGenerator_latencies (s : State) (n : Nat) : (s.usesGenerator n).latencies = s.latencies := rfl
@[simp] theorem State.usesGenerator_inbox (s : State) (n : Nat) : (s.usesGenerator n).inbox = s.inbox := rfl
@[simp] theorem State.usesGenerator_outbox (s : State) (n : Nat) : (s.usesGenerator n).outbox = s.outbox := rfl
@[simp] theorem State.usesGenerator_draws (s : State) (n : Nat) : (s.usesGenerator n).draws = s.draws := rfl

/-! ## acknowledge -/

@[simp] theorem State.acknowledge_ctrlIE (s : State) (w : Word) : (s.acknowledge w).ctrlIE = s.ctrlIE := rfl
@[simp] theorem State.acknowledge_cmd (s : State) (w : Word) : (s.acknowledge w).cmd = s.cmd := rfl
@[simp] theorem State.acknowledge_status (s : State) (w : Word) : (s.acknowledge w).status = s.status.hostWrite w := rfl
@[simp] theorem State.acknowledge_errInfo (s : State) (w : Word) : (s.acknowledge w).errInfo = s.errInfo := rfl
@[simp] theorem State.acknowledge_config (s : State) (w : Word) : (s.acknowledge w).config = s.config := rfl
@[simp] theorem State.acknowledge_payloadLen (s : State) (w : Word) : (s.acknowledge w).payloadLen = s.payloadLen := rfl
@[simp] theorem State.acknowledge_opa (s : State) (w : Word) : (s.acknowledge w).opa = s.opa := rfl
@[simp] theorem State.acknowledge_opb (s : State) (w : Word) : (s.acknowledge w).opb = s.opb := rfl
@[simp] theorem State.acknowledge_result (s : State) (w : Word) : (s.acknowledge w).result = s.result := rfl
@[simp] theorem State.acknowledge_rsCfg (s : State) (w : Word) : (s.acknowledge w).rsCfg = s.rsCfg := rfl
@[simp] theorem State.acknowledge_arMode (s : State) (w : Word) : (s.acknowledge w).arMode = s.arMode := rfl
@[simp] theorem State.acknowledge_arCount (s : State) (w : Word) : (s.acknowledge w).arCount = s.arCount := rfl
@[simp] theorem State.acknowledge_arPbits (s : State) (w : Word) : (s.acknowledge w).arPbits = s.arPbits := rfl
@[simp] theorem State.acknowledge_arVersion (s : State) (w : Word) : (s.acknowledge w).arVersion = s.arVersion := rfl
@[simp] theorem State.acknowledge_arReqbits (s : State) (w : Word) : (s.acknowledge w).arReqbits = s.arReqbits := rfl
@[simp] theorem State.acknowledge_capBits (s : State) (w : Word) : (s.acknowledge w).capBits = s.capBits := rfl
@[simp] theorem State.acknowledge_dcwLen (s : State) (w : Word) : (s.acknowledge w).dcwLen = s.dcwLen := rfl
@[simp] theorem State.acknowledge_finalLen (s : State) (w : Word) : (s.acknowledge w).finalLen = s.finalLen := rfl
@[simp] theorem State.acknowledge_streamBits (s : State) (w : Word) : (s.acknowledge w).streamBits = s.streamBits := rfl
@[simp] theorem State.acknowledge_blkG1 (s : State) (w : Word) : (s.acknowledge w).blkG1 = s.blkG1 := rfl
@[simp] theorem State.acknowledge_blkG2 (s : State) (w : Word) : (s.acknowledge w).blkG2 = s.blkG2 := rfl
@[simp] theorem State.acknowledge_maskSel (s : State) (w : Word) : (s.acknowledge w).maskSel = s.maskSel := rfl
@[simp] theorem State.acknowledge_formatBits (s : State) (w : Word) : (s.acknowledge w).formatBits = s.formatBits := rfl
@[simp] theorem State.acknowledge_versionBits (s : State) (w : Word) : (s.acknowledge w).versionBits = s.versionBits := rfl
@[simp] theorem State.acknowledge_placedBits (s : State) (w : Word) : (s.acknowledge w).placedBits = s.placedBits := rfl
@[simp] theorem State.acknowledge_penalty (s : State) (w : Word) : (s.acknowledge w).penalty = s.penalty := rfl
@[simp] theorem State.acknowledge_penRule (s : State) (w : Word) : (s.acknowledge w).penRule = s.penRule := rfl
@[simp] theorem State.acknowledge_mem (s : State) (w : Word) : (s.acknowledge w).mem = s.mem := rfl
@[simp] theorem State.acknowledge_mxn (s : State) (w : Word) : (s.acknowledge w).mxn = s.mxn := rfl
@[simp] theorem State.acknowledge_genCache (s : State) (w : Word) : (s.acknowledge w).genCache = s.genCache := rfl
@[simp] theorem State.acknowledge_rstN (s : State) (w : Word) : (s.acknowledge w).rstN = s.rstN := rfl
@[simp] theorem State.acknowledge_wait (s : State) (w : Word) : (s.acknowledge w).wait = s.wait := rfl
@[simp] theorem State.acknowledge_latencies (s : State) (w : Word) : (s.acknowledge w).latencies = s.latencies := rfl
@[simp] theorem State.acknowledge_inbox (s : State) (w : Word) : (s.acknowledge w).inbox = s.inbox := rfl
@[simp] theorem State.acknowledge_outbox (s : State) (w : Word) : (s.acknowledge w).outbox = s.outbox := rfl
@[simp] theorem State.acknowledge_draws (s : State) (w : Word) : (s.acknowledge w).draws = s.draws := rfl

/-! ## answer -/

@[simp] theorem State.answer_ctrlIE (s : State) (r : Response) : (s.answer r).ctrlIE = s.ctrlIE := rfl
@[simp] theorem State.answer_cmd (s : State) (r : Response) : (s.answer r).cmd = s.cmd := rfl
@[simp] theorem State.answer_status (s : State) (r : Response) : (s.answer r).status = s.status := rfl
@[simp] theorem State.answer_errInfo (s : State) (r : Response) : (s.answer r).errInfo = s.errInfo := rfl
@[simp] theorem State.answer_config (s : State) (r : Response) : (s.answer r).config = s.config := rfl
@[simp] theorem State.answer_payloadLen (s : State) (r : Response) : (s.answer r).payloadLen = s.payloadLen := rfl
@[simp] theorem State.answer_opa (s : State) (r : Response) : (s.answer r).opa = s.opa := rfl
@[simp] theorem State.answer_opb (s : State) (r : Response) : (s.answer r).opb = s.opb := rfl
@[simp] theorem State.answer_result (s : State) (r : Response) : (s.answer r).result = s.result := rfl
@[simp] theorem State.answer_rsCfg (s : State) (r : Response) : (s.answer r).rsCfg = s.rsCfg := rfl
@[simp] theorem State.answer_arMode (s : State) (r : Response) : (s.answer r).arMode = s.arMode := rfl
@[simp] theorem State.answer_arCount (s : State) (r : Response) : (s.answer r).arCount = s.arCount := rfl
@[simp] theorem State.answer_arPbits (s : State) (r : Response) : (s.answer r).arPbits = s.arPbits := rfl
@[simp] theorem State.answer_arVersion (s : State) (r : Response) : (s.answer r).arVersion = s.arVersion := rfl
@[simp] theorem State.answer_arReqbits (s : State) (r : Response) : (s.answer r).arReqbits = s.arReqbits := rfl
@[simp] theorem State.answer_capBits (s : State) (r : Response) : (s.answer r).capBits = s.capBits := rfl
@[simp] theorem State.answer_dcwLen (s : State) (r : Response) : (s.answer r).dcwLen = s.dcwLen := rfl
@[simp] theorem State.answer_finalLen (s : State) (r : Response) : (s.answer r).finalLen = s.finalLen := rfl
@[simp] theorem State.answer_streamBits (s : State) (r : Response) : (s.answer r).streamBits = s.streamBits := rfl
@[simp] theorem State.answer_blkG1 (s : State) (r : Response) : (s.answer r).blkG1 = s.blkG1 := rfl
@[simp] theorem State.answer_blkG2 (s : State) (r : Response) : (s.answer r).blkG2 = s.blkG2 := rfl
@[simp] theorem State.answer_maskSel (s : State) (r : Response) : (s.answer r).maskSel = s.maskSel := rfl
@[simp] theorem State.answer_formatBits (s : State) (r : Response) : (s.answer r).formatBits = s.formatBits := rfl
@[simp] theorem State.answer_versionBits (s : State) (r : Response) : (s.answer r).versionBits = s.versionBits := rfl
@[simp] theorem State.answer_placedBits (s : State) (r : Response) : (s.answer r).placedBits = s.placedBits := rfl
@[simp] theorem State.answer_penalty (s : State) (r : Response) : (s.answer r).penalty = s.penalty := rfl
@[simp] theorem State.answer_penRule (s : State) (r : Response) : (s.answer r).penRule = s.penRule := rfl
@[simp] theorem State.answer_mem (s : State) (r : Response) : (s.answer r).mem = s.mem := rfl
@[simp] theorem State.answer_mxn (s : State) (r : Response) : (s.answer r).mxn = s.mxn := rfl
@[simp] theorem State.answer_genCache (s : State) (r : Response) : (s.answer r).genCache = s.genCache := rfl
@[simp] theorem State.answer_rstN (s : State) (r : Response) : (s.answer r).rstN = s.rstN := rfl
@[simp] theorem State.answer_wait (s : State) (r : Response) : (s.answer r).wait = s.wait := rfl
@[simp] theorem State.answer_latencies (s : State) (r : Response) : (s.answer r).latencies = s.latencies := rfl
@[simp] theorem State.answer_inbox (s : State) (r : Response) : (s.answer r).inbox = s.inbox := rfl
@[simp] theorem State.answer_outbox (s : State) (r : Response) : (s.answer r).outbox = r :: s.outbox := rfl
@[simp] theorem State.answer_draws (s : State) (r : Response) : (s.answer r).draws = s.draws := rfl

/-! ## issue -/

@[simp] theorem State.issue_ctrlIE (s : State) (w : Word) (k : Nat) : (s.issue w k).ctrlIE = s.ctrlIE := rfl
@[simp] theorem State.issue_cmd (s : State) (w : Word) (k : Nat) : (s.issue w k).cmd = w := rfl
@[simp] theorem State.issue_status (s : State) (w : Word) (k : Nat) : (s.issue w k).status = s.status.issued := rfl
@[simp] theorem State.issue_errInfo (s : State) (w : Word) (k : Nat) : (s.issue w k).errInfo = s.errInfo := rfl
@[simp] theorem State.issue_config (s : State) (w : Word) (k : Nat) : (s.issue w k).config = s.config := rfl
@[simp] theorem State.issue_payloadLen (s : State) (w : Word) (k : Nat) : (s.issue w k).payloadLen = s.payloadLen := rfl
@[simp] theorem State.issue_opa (s : State) (w : Word) (k : Nat) : (s.issue w k).opa = s.opa := rfl
@[simp] theorem State.issue_opb (s : State) (w : Word) (k : Nat) : (s.issue w k).opb = s.opb := rfl
@[simp] theorem State.issue_result (s : State) (w : Word) (k : Nat) : (s.issue w k).result = s.result := rfl
@[simp] theorem State.issue_rsCfg (s : State) (w : Word) (k : Nat) : (s.issue w k).rsCfg = s.rsCfg := rfl
@[simp] theorem State.issue_arMode (s : State) (w : Word) (k : Nat) : (s.issue w k).arMode = s.arMode := rfl
@[simp] theorem State.issue_arCount (s : State) (w : Word) (k : Nat) : (s.issue w k).arCount = s.arCount := rfl
@[simp] theorem State.issue_arPbits (s : State) (w : Word) (k : Nat) : (s.issue w k).arPbits = s.arPbits := rfl
@[simp] theorem State.issue_arVersion (s : State) (w : Word) (k : Nat) : (s.issue w k).arVersion = s.arVersion := rfl
@[simp] theorem State.issue_arReqbits (s : State) (w : Word) (k : Nat) : (s.issue w k).arReqbits = s.arReqbits := rfl
@[simp] theorem State.issue_capBits (s : State) (w : Word) (k : Nat) : (s.issue w k).capBits = s.capBits := rfl
@[simp] theorem State.issue_dcwLen (s : State) (w : Word) (k : Nat) : (s.issue w k).dcwLen = s.dcwLen := rfl
@[simp] theorem State.issue_finalLen (s : State) (w : Word) (k : Nat) : (s.issue w k).finalLen = s.finalLen := rfl
@[simp] theorem State.issue_streamBits (s : State) (w : Word) (k : Nat) : (s.issue w k).streamBits = s.streamBits := rfl
@[simp] theorem State.issue_blkG1 (s : State) (w : Word) (k : Nat) : (s.issue w k).blkG1 = s.blkG1 := rfl
@[simp] theorem State.issue_blkG2 (s : State) (w : Word) (k : Nat) : (s.issue w k).blkG2 = s.blkG2 := rfl
@[simp] theorem State.issue_maskSel (s : State) (w : Word) (k : Nat) : (s.issue w k).maskSel = s.maskSel := rfl
@[simp] theorem State.issue_formatBits (s : State) (w : Word) (k : Nat) : (s.issue w k).formatBits = s.formatBits := rfl
@[simp] theorem State.issue_versionBits (s : State) (w : Word) (k : Nat) : (s.issue w k).versionBits = s.versionBits := rfl
@[simp] theorem State.issue_placedBits (s : State) (w : Word) (k : Nat) : (s.issue w k).placedBits = s.placedBits := rfl
@[simp] theorem State.issue_penalty (s : State) (w : Word) (k : Nat) : (s.issue w k).penalty = s.penalty := rfl
@[simp] theorem State.issue_penRule (s : State) (w : Word) (k : Nat) : (s.issue w k).penRule = s.penRule := rfl
@[simp] theorem State.issue_mem (s : State) (w : Word) (k : Nat) : (s.issue w k).mem = s.mem := rfl
@[simp] theorem State.issue_mxn (s : State) (w : Word) (k : Nat) : (s.issue w k).mxn = s.mxn := rfl
@[simp] theorem State.issue_genCache (s : State) (w : Word) (k : Nat) : (s.issue w k).genCache = s.genCache := rfl
@[simp] theorem State.issue_rstN (s : State) (w : Word) (k : Nat) : (s.issue w k).rstN = s.rstN := rfl
@[simp] theorem State.issue_wait (s : State) (w : Word) (k : Nat) : (s.issue w k).wait = k := rfl
@[simp] theorem State.issue_latencies (s : State) (w : Word) (k : Nat) : (s.issue w k).latencies = s.latencies := rfl
@[simp] theorem State.issue_inbox (s : State) (w : Word) (k : Nat) : (s.issue w k).inbox = s.inbox := rfl
@[simp] theorem State.issue_outbox (s : State) (w : Word) (k : Nat) : (s.issue w k).outbox = s.outbox := rfl
@[simp] theorem State.issue_draws (s : State) (w : Word) (k : Nat) : (s.issue w k).draws = s.draws := rfl

/-! ## raise -/

@[simp] theorem State.raise_ctrlIE (s : State) (op : BitVec 8) (b : Bool) (e : ErrCode) : (s.raise op b e).ctrlIE = s.ctrlIE := rfl
@[simp] theorem State.raise_cmd (s : State) (op : BitVec 8) (b : Bool) (e : ErrCode) : (s.raise op b e).cmd = s.cmd := rfl
@[simp] theorem State.raise_status (s : State) (op : BitVec 8) (b : Bool) (e : ErrCode) : (s.raise op b e).status = if b then (s.status.failed e).withStage .idle else s.status.failed e := rfl
@[simp] theorem State.raise_errInfo (s : State) (op : BitVec 8) (b : Bool) (e : ErrCode) : (s.raise op b e).errInfo = { opcode := op, ecl := s.config.ecl, band := s.config.band, stage := s.status.stage } := rfl
@[simp] theorem State.raise_config (s : State) (op : BitVec 8) (b : Bool) (e : ErrCode) : (s.raise op b e).config = s.config := rfl
@[simp] theorem State.raise_payloadLen (s : State) (op : BitVec 8) (b : Bool) (e : ErrCode) : (s.raise op b e).payloadLen = s.payloadLen := rfl
@[simp] theorem State.raise_opa (s : State) (op : BitVec 8) (b : Bool) (e : ErrCode) : (s.raise op b e).opa = s.opa := rfl
@[simp] theorem State.raise_opb (s : State) (op : BitVec 8) (b : Bool) (e : ErrCode) : (s.raise op b e).opb = s.opb := rfl
@[simp] theorem State.raise_result (s : State) (op : BitVec 8) (b : Bool) (e : ErrCode) : (s.raise op b e).result = s.result := rfl
@[simp] theorem State.raise_rsCfg (s : State) (op : BitVec 8) (b : Bool) (e : ErrCode) : (s.raise op b e).rsCfg = s.rsCfg := rfl
@[simp] theorem State.raise_arMode (s : State) (op : BitVec 8) (b : Bool) (e : ErrCode) : (s.raise op b e).arMode = s.arMode := rfl
@[simp] theorem State.raise_arCount (s : State) (op : BitVec 8) (b : Bool) (e : ErrCode) : (s.raise op b e).arCount = s.arCount := rfl
@[simp] theorem State.raise_arPbits (s : State) (op : BitVec 8) (b : Bool) (e : ErrCode) : (s.raise op b e).arPbits = s.arPbits := rfl
@[simp] theorem State.raise_arVersion (s : State) (op : BitVec 8) (b : Bool) (e : ErrCode) : (s.raise op b e).arVersion = s.arVersion := rfl
@[simp] theorem State.raise_arReqbits (s : State) (op : BitVec 8) (b : Bool) (e : ErrCode) : (s.raise op b e).arReqbits = s.arReqbits := rfl
@[simp] theorem State.raise_capBits (s : State) (op : BitVec 8) (b : Bool) (e : ErrCode) : (s.raise op b e).capBits = s.capBits := rfl
@[simp] theorem State.raise_dcwLen (s : State) (op : BitVec 8) (b : Bool) (e : ErrCode) : (s.raise op b e).dcwLen = s.dcwLen := rfl
@[simp] theorem State.raise_finalLen (s : State) (op : BitVec 8) (b : Bool) (e : ErrCode) : (s.raise op b e).finalLen = s.finalLen := rfl
@[simp] theorem State.raise_streamBits (s : State) (op : BitVec 8) (b : Bool) (e : ErrCode) : (s.raise op b e).streamBits = s.streamBits := rfl
@[simp] theorem State.raise_blkG1 (s : State) (op : BitVec 8) (b : Bool) (e : ErrCode) : (s.raise op b e).blkG1 = s.blkG1 := rfl
@[simp] theorem State.raise_blkG2 (s : State) (op : BitVec 8) (b : Bool) (e : ErrCode) : (s.raise op b e).blkG2 = s.blkG2 := rfl
@[simp] theorem State.raise_maskSel (s : State) (op : BitVec 8) (b : Bool) (e : ErrCode) : (s.raise op b e).maskSel = s.maskSel := rfl
@[simp] theorem State.raise_formatBits (s : State) (op : BitVec 8) (b : Bool) (e : ErrCode) : (s.raise op b e).formatBits = s.formatBits := rfl
@[simp] theorem State.raise_versionBits (s : State) (op : BitVec 8) (b : Bool) (e : ErrCode) : (s.raise op b e).versionBits = s.versionBits := rfl
@[simp] theorem State.raise_placedBits (s : State) (op : BitVec 8) (b : Bool) (e : ErrCode) : (s.raise op b e).placedBits = s.placedBits := rfl
@[simp] theorem State.raise_penalty (s : State) (op : BitVec 8) (b : Bool) (e : ErrCode) : (s.raise op b e).penalty = s.penalty := rfl
@[simp] theorem State.raise_penRule (s : State) (op : BitVec 8) (b : Bool) (e : ErrCode) : (s.raise op b e).penRule = s.penRule := rfl
@[simp] theorem State.raise_mem (s : State) (op : BitVec 8) (b : Bool) (e : ErrCode) : (s.raise op b e).mem = s.mem := rfl
@[simp] theorem State.raise_mxn (s : State) (op : BitVec 8) (b : Bool) (e : ErrCode) : (s.raise op b e).mxn = s.mxn := rfl
@[simp] theorem State.raise_genCache (s : State) (op : BitVec 8) (b : Bool) (e : ErrCode) : (s.raise op b e).genCache = s.genCache := rfl
@[simp] theorem State.raise_rstN (s : State) (op : BitVec 8) (b : Bool) (e : ErrCode) : (s.raise op b e).rstN = s.rstN := rfl
@[simp] theorem State.raise_wait (s : State) (op : BitVec 8) (b : Bool) (e : ErrCode) : (s.raise op b e).wait = s.wait := rfl
@[simp] theorem State.raise_latencies (s : State) (op : BitVec 8) (b : Bool) (e : ErrCode) : (s.raise op b e).latencies = s.latencies := rfl
@[simp] theorem State.raise_inbox (s : State) (op : BitVec 8) (b : Bool) (e : ErrCode) : (s.raise op b e).inbox = s.inbox := rfl
@[simp] theorem State.raise_outbox (s : State) (op : BitVec 8) (b : Bool) (e : ErrCode) : (s.raise op b e).outbox = s.outbox := rfl
@[simp] theorem State.raise_draws (s : State) (op : BitVec 8) (b : Bool) (e : ErrCode) : (s.raise op b e).draws = s.draws := rfl

/-! ## fail -/

@[simp] theorem State.fail_ctrlIE (s : State) (i : Instr) (e : ErrCode) : (s.fail i e).ctrlIE = s.ctrlIE := rfl
@[simp] theorem State.fail_cmd (s : State) (i : Instr) (e : ErrCode) : (s.fail i e).cmd = s.cmd := rfl
@[simp] theorem State.fail_status (s : State) (i : Instr) (e : ErrCode) : (s.fail i e).status = if errorToIdle i then (s.status.failed e).withStage .idle else s.status.failed e := rfl
@[simp] theorem State.fail_errInfo (s : State) (i : Instr) (e : ErrCode) : (s.fail i e).errInfo = { opcode := opcode i, ecl := s.config.ecl, band := s.config.band, stage := s.status.stage } := rfl
@[simp] theorem State.fail_config (s : State) (i : Instr) (e : ErrCode) : (s.fail i e).config = s.config := rfl
@[simp] theorem State.fail_payloadLen (s : State) (i : Instr) (e : ErrCode) : (s.fail i e).payloadLen = s.payloadLen := rfl
@[simp] theorem State.fail_opa (s : State) (i : Instr) (e : ErrCode) : (s.fail i e).opa = s.opa := rfl
@[simp] theorem State.fail_opb (s : State) (i : Instr) (e : ErrCode) : (s.fail i e).opb = s.opb := rfl
@[simp] theorem State.fail_result (s : State) (i : Instr) (e : ErrCode) : (s.fail i e).result = s.result := rfl
@[simp] theorem State.fail_rsCfg (s : State) (i : Instr) (e : ErrCode) : (s.fail i e).rsCfg = s.rsCfg := rfl
@[simp] theorem State.fail_arMode (s : State) (i : Instr) (e : ErrCode) : (s.fail i e).arMode = s.arMode := rfl
@[simp] theorem State.fail_arCount (s : State) (i : Instr) (e : ErrCode) : (s.fail i e).arCount = s.arCount := rfl
@[simp] theorem State.fail_arPbits (s : State) (i : Instr) (e : ErrCode) : (s.fail i e).arPbits = s.arPbits := rfl
@[simp] theorem State.fail_arVersion (s : State) (i : Instr) (e : ErrCode) : (s.fail i e).arVersion = s.arVersion := rfl
@[simp] theorem State.fail_arReqbits (s : State) (i : Instr) (e : ErrCode) : (s.fail i e).arReqbits = s.arReqbits := rfl
@[simp] theorem State.fail_capBits (s : State) (i : Instr) (e : ErrCode) : (s.fail i e).capBits = s.capBits := rfl
@[simp] theorem State.fail_dcwLen (s : State) (i : Instr) (e : ErrCode) : (s.fail i e).dcwLen = s.dcwLen := rfl
@[simp] theorem State.fail_finalLen (s : State) (i : Instr) (e : ErrCode) : (s.fail i e).finalLen = s.finalLen := rfl
@[simp] theorem State.fail_streamBits (s : State) (i : Instr) (e : ErrCode) : (s.fail i e).streamBits = s.streamBits := rfl
@[simp] theorem State.fail_blkG1 (s : State) (i : Instr) (e : ErrCode) : (s.fail i e).blkG1 = s.blkG1 := rfl
@[simp] theorem State.fail_blkG2 (s : State) (i : Instr) (e : ErrCode) : (s.fail i e).blkG2 = s.blkG2 := rfl
@[simp] theorem State.fail_maskSel (s : State) (i : Instr) (e : ErrCode) : (s.fail i e).maskSel = s.maskSel := rfl
@[simp] theorem State.fail_formatBits (s : State) (i : Instr) (e : ErrCode) : (s.fail i e).formatBits = s.formatBits := rfl
@[simp] theorem State.fail_versionBits (s : State) (i : Instr) (e : ErrCode) : (s.fail i e).versionBits = s.versionBits := rfl
@[simp] theorem State.fail_placedBits (s : State) (i : Instr) (e : ErrCode) : (s.fail i e).placedBits = s.placedBits := rfl
@[simp] theorem State.fail_penalty (s : State) (i : Instr) (e : ErrCode) : (s.fail i e).penalty = s.penalty := rfl
@[simp] theorem State.fail_penRule (s : State) (i : Instr) (e : ErrCode) : (s.fail i e).penRule = s.penRule := rfl
@[simp] theorem State.fail_mem (s : State) (i : Instr) (e : ErrCode) : (s.fail i e).mem = s.mem := rfl
@[simp] theorem State.fail_mxn (s : State) (i : Instr) (e : ErrCode) : (s.fail i e).mxn = s.mxn := rfl
@[simp] theorem State.fail_genCache (s : State) (i : Instr) (e : ErrCode) : (s.fail i e).genCache = s.genCache := rfl
@[simp] theorem State.fail_rstN (s : State) (i : Instr) (e : ErrCode) : (s.fail i e).rstN = s.rstN := rfl
@[simp] theorem State.fail_wait (s : State) (i : Instr) (e : ErrCode) : (s.fail i e).wait = s.wait := rfl
@[simp] theorem State.fail_latencies (s : State) (i : Instr) (e : ErrCode) : (s.fail i e).latencies = s.latencies := rfl
@[simp] theorem State.fail_inbox (s : State) (i : Instr) (e : ErrCode) : (s.fail i e).inbox = s.inbox := rfl
@[simp] theorem State.fail_outbox (s : State) (i : Instr) (e : ErrCode) : (s.fail i e).outbox = s.outbox := rfl
@[simp] theorem State.fail_draws (s : State) (i : Instr) (e : ErrCode) : (s.fail i e).draws = if readsBeforeError i then s.draws + 1 else s.draws := rfl

/-! ## resetRegisters -/

@[simp] theorem State.resetRegisters_ctrlIE (s : State) : s.resetRegisters.ctrlIE = State.reset.ctrlIE := rfl
@[simp] theorem State.resetRegisters_cmd (s : State) : s.resetRegisters.cmd = State.reset.cmd := rfl
@[simp] theorem State.resetRegisters_status (s : State) : s.resetRegisters.status = State.reset.status := rfl
@[simp] theorem State.resetRegisters_errInfo (s : State) : s.resetRegisters.errInfo = State.reset.errInfo := rfl
@[simp] theorem State.resetRegisters_config (s : State) : s.resetRegisters.config = State.reset.config := rfl
@[simp] theorem State.resetRegisters_payloadLen (s : State) : s.resetRegisters.payloadLen = State.reset.payloadLen := rfl
@[simp] theorem State.resetRegisters_opa (s : State) : s.resetRegisters.opa = State.reset.opa := rfl
@[simp] theorem State.resetRegisters_opb (s : State) : s.resetRegisters.opb = State.reset.opb := rfl
@[simp] theorem State.resetRegisters_result (s : State) : s.resetRegisters.result = State.reset.result := rfl
@[simp] theorem State.resetRegisters_rsCfg (s : State) : s.resetRegisters.rsCfg = State.reset.rsCfg := rfl
@[simp] theorem State.resetRegisters_arMode (s : State) : s.resetRegisters.arMode = State.reset.arMode := rfl
@[simp] theorem State.resetRegisters_arCount (s : State) : s.resetRegisters.arCount = State.reset.arCount := rfl
@[simp] theorem State.resetRegisters_arPbits (s : State) : s.resetRegisters.arPbits = State.reset.arPbits := rfl
@[simp] theorem State.resetRegisters_arVersion (s : State) : s.resetRegisters.arVersion = State.reset.arVersion := rfl
@[simp] theorem State.resetRegisters_arReqbits (s : State) : s.resetRegisters.arReqbits = State.reset.arReqbits := rfl
@[simp] theorem State.resetRegisters_capBits (s : State) : s.resetRegisters.capBits = State.reset.capBits := rfl
@[simp] theorem State.resetRegisters_dcwLen (s : State) : s.resetRegisters.dcwLen = State.reset.dcwLen := rfl
@[simp] theorem State.resetRegisters_finalLen (s : State) : s.resetRegisters.finalLen = State.reset.finalLen := rfl
@[simp] theorem State.resetRegisters_streamBits (s : State) : s.resetRegisters.streamBits = State.reset.streamBits := rfl
@[simp] theorem State.resetRegisters_blkG1 (s : State) : s.resetRegisters.blkG1 = State.reset.blkG1 := rfl
@[simp] theorem State.resetRegisters_blkG2 (s : State) : s.resetRegisters.blkG2 = State.reset.blkG2 := rfl
@[simp] theorem State.resetRegisters_maskSel (s : State) : s.resetRegisters.maskSel = State.reset.maskSel := rfl
@[simp] theorem State.resetRegisters_formatBits (s : State) : s.resetRegisters.formatBits = State.reset.formatBits := rfl
@[simp] theorem State.resetRegisters_versionBits (s : State) : s.resetRegisters.versionBits = State.reset.versionBits := rfl
@[simp] theorem State.resetRegisters_placedBits (s : State) : s.resetRegisters.placedBits = State.reset.placedBits := rfl
@[simp] theorem State.resetRegisters_penalty (s : State) : s.resetRegisters.penalty = State.reset.penalty := rfl
@[simp] theorem State.resetRegisters_penRule (s : State) : s.resetRegisters.penRule = State.reset.penRule := rfl
@[simp] theorem State.resetRegisters_mem (s : State) : s.resetRegisters.mem = s.mem := rfl
@[simp] theorem State.resetRegisters_mxn (s : State) : s.resetRegisters.mxn = State.reset.mxn := rfl
@[simp] theorem State.resetRegisters_genCache (s : State) : s.resetRegisters.genCache = State.reset.genCache := rfl
@[simp] theorem State.resetRegisters_rstN (s : State) : s.resetRegisters.rstN = s.rstN := rfl
@[simp] theorem State.resetRegisters_wait (s : State) : s.resetRegisters.wait = State.reset.wait := rfl
@[simp] theorem State.resetRegisters_latencies (s : State) : s.resetRegisters.latencies = s.latencies := rfl
@[simp] theorem State.resetRegisters_inbox (s : State) : s.resetRegisters.inbox = s.inbox := rfl
@[simp] theorem State.resetRegisters_outbox (s : State) : s.resetRegisters.outbox = s.outbox := rfl
@[simp] theorem State.resetRegisters_draws (s : State) : s.resetRegisters.draws = s.draws := rfl

/-! ## STATUS -/

@[simp] theorem Status.clearForIssue_busy (s : Status) : s.clearForIssue.busy = s.busy := rfl
@[simp] theorem Status.clearForIssue_done (s : Status) : s.clearForIssue.done = false := rfl
@[simp] theorem Status.clearForIssue_err (s : Status) : s.clearForIssue.err = false := rfl
@[simp] theorem Status.clearForIssue_errSticky (s : Status) : s.clearForIssue.errSticky = s.errSticky := rfl
@[simp] theorem Status.clearForIssue_errCode (s : Status) : s.clearForIssue.errCode = .none := rfl
@[simp] theorem Status.clearForIssue_stage (s : Status) : s.clearForIssue.stage = s.stage := rfl

@[simp] theorem Status.issued_busy (s : Status) : s.issued.busy = true := rfl
@[simp] theorem Status.issued_done (s : Status) : s.issued.done = false := rfl
@[simp] theorem Status.issued_err (s : Status) : s.issued.err = false := rfl
@[simp] theorem Status.issued_errSticky (s : Status) : s.issued.errSticky = s.errSticky := rfl
@[simp] theorem Status.issued_errCode (s : Status) : s.issued.errCode = .none := rfl
@[simp] theorem Status.issued_stage (s : Status) : s.issued.stage = s.stage := rfl

@[simp] theorem Status.completed_busy (s : Status) : s.completed.busy = false := rfl
@[simp] theorem Status.completed_done (s : Status) : s.completed.done = true := rfl
@[simp] theorem Status.completed_err (s : Status) : s.completed.err = s.err := rfl
@[simp] theorem Status.completed_errSticky (s : Status) : s.completed.errSticky = s.errSticky := rfl
@[simp] theorem Status.completed_errCode (s : Status) : s.completed.errCode = s.errCode := rfl
@[simp] theorem Status.completed_stage (s : Status) : s.completed.stage = s.stage := rfl

@[simp] theorem Status.failed_busy (s : Status) (e : ErrCode) : (s.failed e).busy = false := rfl
@[simp] theorem Status.failed_done (s : Status) (e : ErrCode) : (s.failed e).done = true := rfl
@[simp] theorem Status.failed_err (s : Status) (e : ErrCode) : (s.failed e).err = true := rfl
@[simp] theorem Status.failed_errSticky (s : Status) (e : ErrCode) : (s.failed e).errSticky = true := rfl
@[simp] theorem Status.failed_errCode (s : Status) (e : ErrCode) : (s.failed e).errCode = e := rfl
@[simp] theorem Status.failed_stage (s : Status) (e : ErrCode) : (s.failed e).stage = s.stage := rfl

@[simp] theorem Status.withStage_busy (s : Status) (g : Stage) : (s.withStage g).busy = s.busy := rfl
@[simp] theorem Status.withStage_done (s : Status) (g : Stage) : (s.withStage g).done = s.done := rfl
@[simp] theorem Status.withStage_err (s : Status) (g : Stage) : (s.withStage g).err = s.err := rfl
@[simp] theorem Status.withStage_errSticky (s : Status) (g : Stage) : (s.withStage g).errSticky = s.errSticky := rfl
@[simp] theorem Status.withStage_errCode (s : Status) (g : Stage) : (s.withStage g).errCode = s.errCode := rfl
@[simp] theorem Status.withStage_stage (s : Status) (g : Stage) : (s.withStage g).stage = g := rfl

@[simp] theorem Status.hostWrite_busy (s : Status) (w : Word) : (s.hostWrite w).busy = s.busy := rfl
@[simp] theorem Status.hostWrite_done (s : Status) (w : Word) : (s.hostWrite w).done = (s.done && !w.getLsbD 1) := rfl
@[simp] theorem Status.hostWrite_err (s : Status) (w : Word) : (s.hostWrite w).err = s.err := rfl
@[simp] theorem Status.hostWrite_errSticky (s : Status) (w : Word) : (s.hostWrite w).errSticky = (s.errSticky && !w.getLsbD 3) := rfl
@[simp] theorem Status.hostWrite_errCode (s : Status) (w : Word) : (s.hostWrite w).errCode = s.errCode := rfl
@[simp] theorem Status.hostWrite_stage (s : Status) (w : Word) : (s.hostWrite w).stage = s.stage := rfl

end Sys2Proof.Machine
end

