-- ==== Sys2Proof/Laws/Ops.lean ====
section
/-! SUPPORT. What each shared operation of the machine can do, once each: later
proofs cite these instead of unfolding the operations. -/

namespace Sys2Proof.Machine

/-! ## Commands -/

/-- A command answers a next state, and that is the completion of what its rule
gives, or its failure with the error (R410, R411). -/
theorem runCommand_cases {i : Instr} {rule : State → Except ErrCode State} {s t : State}
    (h : runCommand i rule s = .next t) :
    (∃ u, rule s = .ok u ∧ t = u.complete) ∨
      (∃ e, rule s = .error e ∧ t = s.fail i e) := by
  unfold runCommand at h
  cases hr : rule s with
  | ok u => exact .inl ⟨u, rfl, by simpa [hr] using h.symm⟩
  | error e => exact .inr ⟨e, rfl, by simpa [hr] using h.symm⟩

theorem runCommand_ok {i : Instr} {rule : State → Except ErrCode State} {s u : State}
    (h : rule s = .ok u) : runCommand i rule s = .next u.complete := by
  simp [runCommand, h]

theorem runCommand_error {i : Instr} {rule : State → Except ErrCode State} {s : State}
    {e : ErrCode} (h : rule s = .error e) :
    runCommand i rule s = .next (s.fail i e) := by
  simp [runCommand, h]

/-- A single-stage rule runs in its stage, and raises PHASE_ORDER in every other
(R395). -/
theorem inStage_cases {g : Stage} {rule : State → State} (s : State) :
    (s.status.stage = g ∧ inStage g rule s = .ok (rule s)) ∨
      (s.status.stage ≠ g ∧ inStage g rule s = .error .phaseOrder) := by
  unfold inStage
  by_cases h : s.status.stage = g <;> simp [h]

/-- The analyzer's selection: what must hold for it to succeed (R240-R244). -/
theorem selectVersion_ok {s : State} {p : List Byte} {a : Analysis} {v : Nat}
    (h : selectVersion s = .ok (p, a, v)) :
    p = s.payload ∧ a = classify p ∧ tooLong s = false ∧
      ∃ lo hi, bandMin s.config.band = some lo ∧ bandMax s.config.band = some hi ∧
        scanVersions (classify s.payload) s.config.ecl (max lo s.config.minver.toNat) hi =
          some v := by
  unfold selectVersion at h
  cases hlo : bandMin s.config.band with
  | none => simp [hlo] at h
  | some lo =>
    cases hhi : bandMax s.config.band with
    | none => simp [hlo, hhi] at h
    | some hi =>
      cases ht : tooLong s with
      | true => simp [hlo, hhi, ht] at h
      | false =>
        simp only [hlo, hhi, ht, Bool.false_eq_true, if_false] at h
        split at h
        · rename_i w hw
          simp only [Except.ok.injEq, Prod.mk.injEq] at h
          obtain ⟨rfl, rfl, rfl⟩ := h
          exact ⟨rfl, rfl, rfl, lo, hi, rfl, rfl, hw⟩
        · simp at h

/-- A scanned version lies in its range and holds the payload (R244). -/
theorem scanVersions_some {a : Analysis} {e : BitVec 2} {lo hi v : Nat}
    (h : scanVersions a e lo hi = some v) :
    lo ≤ v ∧ v ≤ hi ∧ requiredBits a v ≤ capacityBits v e := by
  unfold scanVersions at h
  have hm := List.mem_of_find?_eq_some h
  have hp := List.find?_some h
  rw [List.mem_range'_1] at hm
  simp at hp
  omega

/-- The range of a band lies within the versions 1..40 (R243). -/
theorem band_range {b : BitVec 2} {lo hi : Nat} (hlo : bandMin b = some lo)
    (hhi : bandMax b = some hi) : 1 ≤ lo ∧ lo ≤ hi ∧ hi ≤ 40 := by
  unfold bandMin at hlo
  unfold bandMax at hhi
  split at hlo <;> simp_all <;> omega

/-- A selected version is one of 1..40 (R244). -/
theorem selectVersion_range {s : State} {p : List Byte} {a : Analysis} {v : Nat}
    (h : selectVersion s = .ok (p, a, v)) : 1 ≤ v ∧ v ≤ 40 := by
  obtain ⟨_, _, _, lo, hi, hlo, hhi, hs⟩ := selectVersion_ok h
  have hr := band_range hlo hhi
  have hv := scanVersions_some hs
  omega

/-! ## The mask evaluator -/

/-- A candidate's scorecard, however many are scored at a time (R352). -/
@[simp] theorem scoresOf_getElem (lanes n : Nat) (g : Grid) (k : Nat) (hk : k < 8) :
    (scoresOf lanes n g)[k] = scoreOf n (candidate k g) := by
  simp [scoresOf, evaluate]

/-- MASK_LANES is unobservable (R352). -/
theorem scoresOf_lanes (lanes lanes' n : Nat) (g : Grid) :
    scoresOf lanes n g = scoresOf lanes' n g := by
  ext k hk; all_goals simp

theorem maskMatrix_lanes (lanes lanes' : Nat) (s : State) :
    maskMatrix lanes s = maskMatrix lanes' s := by
  simp only [maskMatrix, scoresOf_lanes lanes lanes']

/-! ## Lists of bytes and bits -/

@[simp] theorem xorOnto_length (r p : List Byte) : (xorOnto r p).length = r.length := by
  induction r generalizing p with
  | nil => cases p <;> rfl
  | cons x r ih => cases p with
    | nil => rfl
    | cons y p => simp [xorOnto, ih]

@[simp] theorem putBits_length (val w : Nat) : (putBits val w).length = w := by
  induction w with
  | zero => rfl
  | succ w ih => simp [putBits, ih]

@[simp] theorem packBits_length (d : Nat) (bs : List Bool) : (packBits d bs).length = d := by
  induction d generalizing bs with
  | zero => rfl
  | succ d ih => simp [packBits, ih]

@[simp] theorem byteBits_length (p : List Byte) : (byteBits p).length = 8 * p.length := by
  induction p with
  | nil => rfl
  | cons b p ih =>
    have : byteBits (b :: p) = putBits b.toNat 8 ++ byteBits p := by simp [byteBits]
    rw [this, List.length_append, putBits_length, ih, List.length_cons]; omega

/-- The generator polynomial has n + 1 bytes (R201). -/
@[simp] theorem genpoly_length (n : Nat) : (genpoly n).length = n + 1 := by
  unfold genpoly
  induction n with
  | zero => rfl
  | succ n ih =>
    rw [List.range_succ, List.foldl_append]
    simp only [List.foldl_cons, List.foldl_nil, genStep, xorOnto_length, List.length_append,
      List.length_cons, List.length_nil, ih]

/-- `rs_ec` gives n bytes (R208). -/
theorem rsEc_length (d : List Byte) (n : Nat) (hn : 1 ≤ n) : (rsEc d n).length = n := by
  unfold rsEc
  have hstep : ∀ r : List Byte, r.length = n → ∀ x, (rsStep (genpoly n) r x).length = n := by
    intro r hr x
    simp [rsStep, hr]; omega
  have : ∀ (l : List Byte) (r : List Byte), r.length = n →
      (l.foldl (rsStep (genpoly n)) r).length = n := by
    intro l
    induction l with
    | nil => intro r hr; exact hr
    | cons x l ih => intro r hr; exact ih _ (hstep r hr x)
  exact this d _ (by simp)

end Sys2Proof.Machine
end

