-- ==== Sys2Proof/Laws/PerInstr.lean ====
section
/-! SUPPORT. The per-instruction family `Encoding`: the encoded word of every
command is a valid command word (30_encoding.md R141, R144), its bytes are the
word's in bus order, and its opcode is in the family R142 gives it. -/

namespace Sys2Proof.Laws.Encoding

/-- The family number OPCODE[7:4] of a command (R142). -/
def familyOf : Instr → Nat
  | .nop | .gfAdd | .gfMul | .gfDiv | .gfPow | .gfExp | .gfLog => 0
  | .rsGenpoly | .rsEncode | .rsRemainder | .rsSyndrome => 1
  | .bchFormat | .bchVersion => 2
  | .classify | .analyze | .encodeData | .interleave => 3
  | .mxGeometry | .mxPlace | .mxMask | .mxChecksum | .encodeQr => 4

/-- What holds of the encoding of each command. -/
def Statement (i : Instr) : Prop :=
  (CommandWord.ofWord (encode i)).wf = true ∧
    (encode i).toNat = (opcode i).toNat ∧
    (opcode i).toNat / 16 = familyOf i ∧
    decodeBytes (encodeBytes i) = some (i, [])

theorem nop : Statement .nop := by unfold Statement; decide
theorem gfAdd : Statement .gfAdd := by unfold Statement; decide
theorem gfMul : Statement .gfMul := by unfold Statement; decide
theorem gfDiv : Statement .gfDiv := by unfold Statement; decide
theorem gfPow : Statement .gfPow := by unfold Statement; decide
theorem gfExp : Statement .gfExp := by unfold Statement; decide
theorem gfLog : Statement .gfLog := by unfold Statement; decide
theorem rsGenpoly : Statement .rsGenpoly := by unfold Statement; decide
theorem rsEncode : Statement .rsEncode := by unfold Statement; decide
theorem rsRemainder : Statement .rsRemainder := by unfold Statement; decide
theorem rsSyndrome : Statement .rsSyndrome := by unfold Statement; decide
theorem bchFormat : Statement .bchFormat := by unfold Statement; decide
theorem bchVersion : Statement .bchVersion := by unfold Statement; decide
theorem classify : Statement .classify := by unfold Statement; decide
theorem analyze : Statement .analyze := by unfold Statement; decide
theorem encodeData : Statement .encodeData := by unfold Statement; decide
theorem interleave : Statement .interleave := by unfold Statement; decide
theorem mxGeometry : Statement .mxGeometry := by unfold Statement; decide
theorem mxPlace : Statement .mxPlace := by unfold Statement; decide
theorem mxMask : Statement .mxMask := by unfold Statement; decide
theorem mxChecksum : Statement .mxChecksum := by unfold Statement; decide
theorem encodeQr : Statement .encodeQr := by unfold Statement; decide

end Sys2Proof.Laws.Encoding
end

