-- ==== Sys2Proof/Laws/Regions.lean ====
section
/-! SUPPORT. The address map (20_memory.md R113): which offsets each region holds,
and the form of an access. -/

namespace Sys2Proof.Machine

theorem Region.holds_iff (g : Region) (a : Nat) :
    g.holds a = true ↔ g.base ≤ a ∧ a < g.base + g.size := by
  simp [Region.holds]

/-- No two regions share an offset. -/
theorem Region.disjoint {g h : Region} {a : Nat} (hg : g.holds a = true) (hh : h.holds a = true) :
    g = h := by
  rw [Region.holds_iff] at hg hh
  cases g <;> cases h <;>
    first
      | rfl
      | (exfalso
         simp only [Region.base, Region.size, Config.payloadBuf, Config.matrixStride] at hg hh
         omega)

/-- An offset is in the region that holds it. -/
theorem regionOf_eq_some_iff (a : Nat) (g : Region) :
    regionOf a = some g ↔ g.base ≤ a ∧ a < g.base + g.size := by
  rw [← Region.holds_iff]
  constructor
  · exact fun h => List.find?_some (p := fun k : Region => k.holds a) h
  · intro h
    cases hf : regionOf a with
    | none =>
      have := List.find?_eq_none.mp hf g (by cases g <;> decide)
      exact absurd h this
    | some k => rw [Region.disjoint (List.find?_some (p := fun k : Region => k.holds a) hf) h]

theorem regionOf_eq_none_iff (a : Nat) :
    regionOf a = none ↔ ∀ g : Region, ¬ (g.base ≤ a ∧ a < g.base + g.size) := by
  constructor
  · intro h g hg
    rw [← regionOf_eq_some_iff] at hg
    rw [h] at hg; cases hg
  · intro h
    cases hf : regionOf a with
    | none => rfl
    | some g => exact absurd ((regionOf_eq_some_iff a g).mp hf) (h g)

theorem regionOf_registers (a : Nat) : regionOf a = some .registers ↔ a < 512 := by
  rw [regionOf_eq_some_iff]; simp [Region.base, Region.size]

/-- A form is refused if it is misaligned, or narrower than a word in the register
window (R102, R104). -/
theorem badForm_eq_false_iff (a : Nat) (size : AccessSize) :
    badForm a size = false ↔ a % size.bytes = 0 ∧ (a < 512 → size = .four) := by
  have h := regionOf_registers a
  by_cases hr : regionOf a = some .registers
  · have := h.mp hr
    cases size <;> simp [badForm, hr, this]
  · have : ¬ a < 512 := fun hlt => hr (h.mpr hlt)
    cases size <;> simp [badForm, hr, this]

end Sys2Proof.Machine
end

