-- ==== Sys2Proof/Laws/Step.lean ====
section
/-! SUPPORT. What a step, the host's cycle and an accepted write can do, once each. -/

namespace Sys2Proof.Machine

/-! ## The step -/

theorem State.coreTurn_iff (s : State) :
    s.coreTurn = true ↔
      s.rstN = true ∧ s.status.busy = true ∧ s.wait = 0 ∧ s.resetFalls = false := by
  simp [State.coreTurn, and_assoc]

theorem State.resetFalls_iff (s : State) :
    s.resetFalls = true ↔ ∃ rest, s.inbox = .rstN false :: rest := by
  unfold State.resetFalls
  split <;> simp_all

@[simp] theorem State.resetFalls_withoutReset (s : State) :
    ({ s with inbox := withoutReset s.inbox } : State).resetFalls = false := by
  rw [Bool.eq_false_iff, ne_eq, State.resetFalls_iff]
  rintro ⟨rest, h⟩
  have := List.head?_dropWhile_not (· == HostEvent.rstN false) s.inbox
  simp_all [withoutReset]

/-- In the sequencer's cycle the decoded command runs. -/
theorem step_exec {s : State} {i : Instr} (h : s.coreTurn = true) (hi : decode s.cmd = some i) :
    step s = exec i s := by
  simp [step, h, State.runIssued, hi]

/-- In any other cycle the host acts. -/
theorem step_host {s : State} (h : s.coreTurn = false) : step s = .next s.hostTurn := by
  simp [step, h]

/-- Everything a step can do. -/
theorem step_cases {s t : State} (h : step s = .next t) :
    (s.coreTurn = true ∧ ∃ i, decode s.cmd = some i ∧ exec i s = .next t) ∨
    (s.coreTurn = true ∧ decode s.cmd = none ∧ t = s.rejectCommand s.cmd) ∨
    (s.coreTurn = false ∧ t = s.hostTurn) := by
  cases hc : s.coreTurn with
  | false =>
    rw [step_host hc] at h
    exact .inr (.inr ⟨rfl, (Host.Outcome.next.inj h).symm⟩)
  | true =>
    cases hd : decode s.cmd with
    | some i => rw [step_exec hc hd] at h; exact .inl ⟨rfl, i, rfl, h⟩
    | none =>
      simp only [step, hc, if_true, State.runIssued, hd, Host.Outcome.next.injEq] at h
      exact .inr (.inl ⟨rfl, rfl, h.symm⟩)

/-- The cycle's passing of time. -/
def State.tick (s : State) : State :=
  { s with wait := if s.status.busy then s.wait - 1 else s.wait }

theorem State.hostTurn_nil {s : State} (h : s.inbox = []) : s.hostTurn = s.tick := by
  simp [State.hostTurn, State.tick, h]

theorem State.hostTurn_cons {s : State} {e : HostEvent} {rest : List HostEvent}
    (h : s.inbox = e :: rest) : s.hostTurn = ({ s.tick with inbox := rest } : State).hostEvent e := by
  simp [State.hostTurn, State.tick, h]

/-! ## Commands -/

/-- Every command answers a next state (R410). -/
theorem runCommand_next (i : Instr) (rule : State → Except ErrCode State) (s : State) :
    ∃ t, runCommand i rule s = .next t := by
  unfold runCommand
  cases rule s <;> exact ⟨_, rfl⟩

/-- A single-stage command in its stage. -/
theorem runCommand_inStage {i : Instr} {g : Stage} {rule : State → State} {s : State}
    (h : s.status.stage = g) : runCommand i (inStage g rule) s = .next (rule s).complete := by
  simp [runCommand, inStage, h]

/-- A single-stage command in any other stage (R395). -/
theorem runCommand_wrongStage {i : Instr} {g : Stage} {rule : State → State} {s : State}
    (h : s.status.stage ≠ g) :
    runCommand i (inStage g rule) s = .next (s.fail i .phaseOrder) := by
  simp [runCommand, inStage, h]

/-- The checks of an RS command pass exactly within the limits of R200. -/
theorem rsCheck_ok_iff (readsK : Bool) (s : State) :
    rsCheck readsK s = .ok () ↔
      1 ≤ s.rsN ∧ s.rsN ≤ 32 ∧ (readsK = true → s.rsK ≤ 256) := by
  unfold rsCheck
  simp only [Config.rsNMax, Config.rsKMax]
  by_cases h0 : s.rsN = 0
  · simp [h0]
  · by_cases h1 : 32 < s.rsN
    · simp [h0, h1]
    · cases readsK
      · simp [h0, h1]; omega
      · by_cases h2 : 256 < s.rsK
        · simp [h0, h1, h2]
        · simp [h0, h1, h2]; omega

/-! ## Writes -/

/-- Every write the registers accept (R31). -/
theorem State.writeReg_cases {s t : State} {a : Nat} {w : Word} (h : s.writeReg a w = some t) :
    (a = 0x004 ∧ t = s.writeCtrl w) ∨ (a = 0x008 ∧ t = s.writeCmd w) ∨
    (a = 0x00C ∧ t = s.acknowledge w) ∨
    (a = 0x014 ∧ t = ({ s with config := CfgReg.ofWord w } : State).setStage .idle) ∨
    (a = 0x018 ∧ t = ({ s with payloadLen := w.extractLsb' 0 16 } : State).setStage .idle) ∨
    (a = 0x020 ∧ t = { s with opa := w }) ∨ (a = 0x024 ∧ t = { s with opb := w }) ∨
    (a = 0x02C ∧ t = { s with rsCfg := RsCfgReg.ofWord w }) := by
  unfold State.writeReg at h
  split at h <;> simp_all

/-- Every write that is accepted (R106, R109, R460). -/
theorem State.writeAccepted_cases {s t : State} {a : Nat} {size : AccessSize} {w : Word}
    (h : s.writeAccepted a size w = some t) :
    s.rstN = true ∧ badForm a size = false ∧ (s.status.busy = true → a = 0x004) ∧
    ((regionOf a = some .registers ∧ s.writeReg a w = some t) ∨
     (regionOf a = some .rsdata ∧
        t = { s with mem := Memory.store s.mem a (writeBytes size w) }) ∨
     (regionOf a = some .payload ∧
        t = ({ s with mem := Memory.store s.mem a (writeBytes size w) } : State).setStage
          .idle)) := by
  unfold State.writeAccepted at h
  split at h
  · simp at h
  · rename_i hc
    simp only [Bool.or_eq_true, Bool.and_eq_true, bne_iff_ne, ne_eq, decide_eq_true_eq,
      not_or, not_and, Bool.not_eq_false, Bool.not_eq_true, Decidable.not_not] at hc
    refine ⟨hc.1.1, hc.1.2, hc.2, ?_⟩
    unfold State.writeLocation at h
    split at h <;> simp_all

@[simp] theorem writeBytes_length (size : AccessSize) (w : Word) :
    (writeBytes size w).length = size.bytes := by
  cases size <;> rfl

end Sys2Proof.Machine
end

