-- ==== Sys2Proof/Machine/Programs.lean ====
section
/-! DEFINITION. The host-program conventions of 30_encoding.md R146 and R147:
each line of a program as the host events it stands for. -/

namespace Sys2Proof.Machine

/-- A write of the given size, `MemWrite(off, n, v)` (R146). -/
def busWrite (size : AccessSize) (off v : Nat) : HostEvent :=
  .access (.write (BitVec.ofNat 18 off) size (BitVec.ofNat 32 v))

/-- A read of the given size, `MemRead(off, n)` (R146). -/
def busRead (size : AccessSize) (off : Nat) : HostEvent :=
  .access (.read (BitVec.ofNat 18 off) size)

/-- `W32 <off>, <value>` (R146). -/
def w32 (off v : Nat) : HostEvent := busWrite .four off v

/-- `W8 <off>, <value>` (R146). -/
def w8 (off v : Nat) : HostEvent := busWrite .one off v

/-- `R32 <off>` (R146). -/
def r32 (off : Nat) : HostEvent := busRead .four off

/-- `R8 <off>` (R146). -/
def r8 (off : Nat) : HostEvent := busRead .one off

/-- `CMD <mnemonic>` (R146). -/
def cmdWrite (i : Instr) : HostEvent := w32 0x008 (encode i).toNat

/-- `LOADTEXT` (R147): the payload bytes, then their count. -/
def loadText (text : List Byte) : List HostEvent :=
  (text.zipIdx.map fun b => w8 (Region.payload.base + b.2) b.1.toNat) ++ [w32 0x018 text.length]

/-- `SETCFG <ecl>, <band>, <minver>` (R147). -/
def setCfg (ecl band minver : Nat) : HostEvent :=
  w32 0x014 ((minver <<< 4) ||| (band <<< 2) ||| ecl)

/-- `WAIT` with `polls` reads of STATUS (R147). -/
def waitPolls (polls : Nat) : List HostEvent := List.replicate polls (r32 0x00C)

/-- `RUN <mnemonic>` (R147): the command, then polling. -/
def runCmd (i : Instr) (polls : Nat) : List HostEvent := cmdWrite i :: waitPolls polls

end Sys2Proof.Machine
end

