-- ==== Sys2Proof/Tests/Slice0.lean ====
section
/-! SUPPORT. Tests: the smoke test of WellFormed, words decoded, one or two vectors
of the spec per command and per bus rule, and the witnesses of the statements'
hypotheses. Every expected value is the spec's. -/

namespace Sys2Proof.Tests

open Sys2Proof Sys2Proof.Machine Sys2Proof.Safety Sys2Proof.Reference

/-! ## WellFormed -/

theorem test_rsvd_not_zero_refused :
    CommandWord.wf { opcode := 0x01, rsvd := 0x800000 } = false := by decide

theorem test_unassigned_opcode_refused :
    CommandWord.wf { opcode := 0x07, rsvd := 0 } = false := by decide

theorem test_wide_write_data_refused :
    BusAccess.wf (.write 0x02000 .one 0x100) = false := by decide

theorem test_wellformed_accepted :
    CommandWord.wf { opcode := 0x4F, rsvd := 0 } = true ∧
    BusAccess.wf (.write 0x02000 .one 0xFF) = true := by decide

/-! ## Decode: words written out from R141 and R142, one or more of each family -/

theorem test_decode_nop : decode 0b00000000000000000000000000000000 = some .nop := by decide
theorem test_decode_gfAdd : decode 0b00000000000000000000000000000001 = some .gfAdd := by decide
theorem test_decode_gfMul : decode 0b00000000000000000000000000000010 = some .gfMul := by decide
theorem test_decode_gfDiv : decode 0b00000000000000000000000000000011 = some .gfDiv := by decide
theorem test_decode_gfPow : decode 0b00000000000000000000000000000100 = some .gfPow := by decide
theorem test_decode_gfExp : decode 0b00000000000000000000000000000101 = some .gfExp := by decide
theorem test_decode_gfLog : decode 0b00000000000000000000000000000110 = some .gfLog := by decide
theorem test_decode_rsGenpoly :
    decode 0b00000000000000000000000000010000 = some .rsGenpoly := by decide
theorem test_decode_rsEncode :
    decode 0b00000000000000000000000000010001 = some .rsEncode := by decide
theorem test_decode_rsRemainder :
    decode 0b00000000000000000000000000010010 = some .rsRemainder := by decide
theorem test_decode_rsSyndrome :
    decode 0b00000000000000000000000000010011 = some .rsSyndrome := by decide
theorem test_decode_bchFormat :
    decode 0b00000000000000000000000000100000 = some .bchFormat := by decide
theorem test_decode_bchVersion :
    decode 0b00000000000000000000000000100001 = some .bchVersion := by decide
theorem test_decode_classify :
    decode 0b00000000000000000000000000110000 = some .classify := by decide
theorem test_decode_analyze :
    decode 0b00000000000000000000000000110001 = some .analyze := by decide
theorem test_decode_encodeData :
    decode 0b00000000000000000000000000111000 = some .encodeData := by decide
theorem test_decode_interleave :
    decode 0b00000000000000000000000000111001 = some .interleave := by decide
theorem test_decode_mxGeometry :
    decode 0b00000000000000000000000001000000 = some .mxGeometry := by decide
theorem test_decode_mxPlace :
    decode 0b00000000000000000000000001000001 = some .mxPlace := by decide
theorem test_decode_mxMask :
    decode 0b00000000000000000000000001000010 = some .mxMask := by decide
theorem test_decode_mxChecksum :
    decode 0b00000000000000000000000001000011 = some .mxChecksum := by decide
theorem test_decode_encodeQr :
    decode 0b00000000000000000000000001001111 = some .encodeQr := by decide

theorem test_reserved_words_refused :
    decode 0x00000007 = none ∧ decode 0x0000003F = none ∧ decode 0x0000004E = none ∧
    decode 0x000000FF = none ∧ decode 0x00000100 = none ∧ decode 0x80000001 = none := by decide

/-! ## States for the tests -/

/-- What `f` shows of the state a command answers. -/
def shows {α : Type} (o : Host.Outcome State Fault Refusal) (f : State → α) : Option α :=
  match o with
  | .next t => some (f t)
  | _ => none

/-- OPA and OPB set. -/
def withOperands (a b : Word) : State := { State.reset with opa := a, opb := b }

/-- RSDATA and RS_CFG set. -/
def withCode (data : List Byte) (k : BitVec 9) (n : BitVec 8) : State :=
  { State.reset with mem := Memory.store [] 0x01000 data, rsCfg := { k := k, n := n } }

/-- PAYLOAD, PAYLOAD_LEN and CONFIG set. -/
def withPayload (p : List Byte) (ecl band : BitVec 2) (minver : BitVec 6) : State :=
  { State.reset with
    mem := Memory.store [] 0x02000 p, payloadLen := BitVec.ofNat 16 p.length
    config := { ecl := ecl, band := band, minver := minver } }

/-- STAGE and AR_VERSION set. -/
def atStage (g : Stage) (v : BitVec 6) (s : State) : State :=
  { s with status := { s.status with stage := g }
           arVersion := { version := v, side := BitVec.ofNat 8 (sideOf v.toNat) } }

/-- Host events waiting. -/
def hostState (es : List HostEvent) : State := { State.reset with inbox := es }

/-- Host events waiting while a GF_ADD with latency left is in progress. -/
def busyState (es : List HostEvent) : State :=
  { State.reset.issue 0x00000001 2 with inbox := es }

/-- "HELLO WORLD". -/
def hello : List Byte :=
  [0x48, 0x45, 0x4C, 0x4C, 0x4F, 0x20, 0x57, 0x4F, 0x52, 0x4C, 0x44]

/-- The data codewords of HELLO WORLD at version 1-M (95_test_vectors.md W1). -/
def helloDcw : List Byte :=
  [32, 91, 11, 120, 209, 114, 220, 77, 67, 64, 236, 17, 236, 17, 236, 17]

/-- Its error-correction codewords (42_rs.md R203). -/
def helloEc : List Byte := [196, 35, 39, 119, 235, 215, 231, 226, 93, 23]

/-! ## Commands (examples of the rules named) -/

-- R390
theorem test_nop_completes : shows (exec .nop (State.reset.issue 0 0)) (fun t =>
    (t.status.busy, t.status.done, t.status.err)) = some (false, true, false) := by decide

-- R171
theorem test_gfAdd : shows (exec .gfAdd (withOperands 0x53 0xFFFFFFCA)) State.result =
    some 0x00000099 := by decide

-- R172
theorem test_gfMul_reduces : shows (exec .gfMul (withOperands 0x02 0x80)) State.result =
    some 0x1D := by decide
theorem test_gfMul : shows (exec .gfMul (withOperands 0x53 0xCA)) State.result =
    some 0x8F := by decide

-- R173
theorem test_gfDiv : shows (exec .gfDiv (withOperands 0x53 0xCA)) State.result =
    some 0x6D := by decide
theorem test_gfDiv_zero_by_zero : shows (exec .gfDiv (withOperands 0 0)) (fun t =>
    (t.status.errCode, t.status.errSticky, t.errInfo.opcode)) =
    some (.divideByZero, true, 0x03) := by decide

-- R174
theorem test_gfPow_zero_to_zero : shows (exec .gfPow (withOperands 0 0)) State.result =
    some 1 := by decide
theorem test_gfPow : shows (exec .gfPow (withOperands 0x53 2)) State.result =
    some 0xD5 := by decide

-- R175
theorem test_gfExp_509 : shows (exec .gfExp (withOperands 509 0)) State.result =
    some 142 := by decide
theorem test_gfExp_wraps : shows (exec .gfExp (withOperands 511 0)) State.result =
    some 2 := by decide

-- R176
theorem test_gfLog : shows (exec .gfLog (withOperands 0x8E 0)) State.result =
    some 254 := by decide
theorem test_gfLog_domain : shows (exec .gfLog (withOperands 0xFF00 0)) (fun t =>
    t.status.errCode) = some .domain := by decide

-- R202
theorem test_rsGenpoly : shows (exec .rsGenpoly (withCode [] 0 2)) (fun t =>
    (t.result, (List.range 3).map fun i => Memory.get? t.mem (0x01200 + i))) =
    some (3, [some 1, some 3, some 2]) := by decide
theorem test_rsGenpoly_bad_length : shows (exec .rsGenpoly (withCode [] 0 33)) (fun t =>
    t.status.errCode) = some .badLength := by decide

-- R203
theorem test_rsEncode : shows (exec .rsEncode (withCode [0x12, 0x34, 0x56] 3 3)) (fun t =>
    (t.result, (List.range 4).map fun i => Memory.get? t.mem (0x01100 + i))) =
    some (3, [some 129, some 195, some 50, none]) := by decide +kernel
theorem test_rsEncode_hello : rsEc helloDcw 10 = helloEc := by decide +kernel

-- R204
theorem test_rsRemainder_short : shows (exec .rsRemainder (withCode [1, 2] 2 3)) (fun t =>
    (t.result, (List.range 3).map fun i => Memory.get? t.mem (0x01100 + i))) =
    some (0, [some 0, some 1, some 2]) := by decide
theorem test_rsRemainder : shows (exec .rsRemainder (withCode [1, 0, 0, 0] 4 3)) (fun t =>
    (t.result, (List.range 3).map fun i => Memory.get? t.mem (0x01100 + i))) =
    some (0, [some 7, some 14, some 8]) := by decide +kernel

-- R205
theorem test_rsSyndrome : shows (exec .rsSyndrome (withCode [1, 2, 3] 3 3)) (fun t =>
    (t.result, (List.range 3).map fun i => Memory.get? t.mem (0x01100 + i))) =
    some (0, [some 0, some 3, some 27]) := by decide +kernel
theorem test_rsSyndrome_codeword :
    rsSyndromes (helloDcw ++ helloEc) 10 = List.replicate 10 0 := by decide +kernel

-- R361
theorem test_bchFormat : shows (exec .bchFormat (withOperands 0 5)) State.result =
    some 0x6318 := by decide
theorem test_bchFormat_h7 : shows (exec .bchFormat (withOperands 3 7)) State.result =
    some 0x083B := by decide

-- R363
theorem test_bchVersion : shows (exec .bchVersion (withOperands 7 0)) State.result =
    some 0x07C94 := by decide
theorem test_bchVersion_63 : shows (exec .bchVersion (withOperands 63 0)) State.result =
    some 0x3FB85 := by decide

-- R237
theorem test_classify_eci : shows (exec .classify (withPayload [0xD0, 0x96] 0 3 0)) (fun t =>
    (t.arMode, t.arCount, t.arPbits)) = some ({ mode := 4, eci := true }, 2, 16) := by
  decide +kernel
theorem test_classify_hello : shows (exec .classify (withPayload hello 0 0 0)) (fun t =>
    (t.arMode, t.arCount, t.arPbits)) = some ({ mode := 2, eci := false }, 11, 61) := by
  decide +kernel

-- R245
theorem test_analyze_minver : shows (exec .analyze (withPayload hello 1 0 3)) (fun t =>
    (t.arVersion, t.status.stage)) = some ({ version := 3, side := 29 }, .analyzed) := by
  decide +kernel
theorem test_analyze_band : shows (exec .analyze (withPayload hello 1 1 0)) (fun t =>
    (t.arVersion.version, t.arReqbits)) = some (10, 76) := by decide +kernel

-- R260
theorem test_encodeData : shows (exec .encodeData
    { atStage .analyzed 1 (withPayload hello 1 0 0) with
      arMode := { mode := 2, eci := false }, arCount := 11 }) (fun t =>
    (t.dcwLen, t.status.stage, bytesAt t 0x04000 16)) = some (16, .encoded, helloDcw) := by
  decide +kernel
theorem test_encodeData_phase_order : shows (exec .encodeData (withPayload hello 1 0 0))
    (fun t => (t.status.errCode, t.status.stage, t.dcwLen)) = some (.phaseOrder, .idle, 0) := by
  decide

-- R280
theorem test_interleave : shows (exec .interleave
    { atStage .encoded 1 (withPayload [] 1 0 0) with
      mem := Memory.store [] 0x04000 helloDcw, dcwLen := 16 }) (fun t =>
    (t.finalLen, t.streamBits, bytesAt t 0x05000 26)) = some (26, 208, helloDcw ++ helloEc) := by
  decide +kernel
-- R283, R281: two blocks of 1 byte, two of 2
theorem test_interleave_columns :
    interleaveColumns 2 (splitBlocks ⟨1, 2, 1, 2, 2⟩ [10, 20, 30, 31, 40, 41]) =
      [10, 20, 30, 40, 31, 41] := by decide

-- R300: row 8 of the version 1 picture, `......#..????........`
theorem test_mxGeometry_row : shows (exec .mxGeometry (atStage .interleaved 1 State.reset))
    (fun t => (t.mxn, bytesAt t (0x10000 + 256 * 8) 21)) =
    some (21, [6, 6, 6, 6, 6, 6, 7, 6, 6, 0, 0, 0, 0, 6, 6, 6, 6, 6, 6, 6, 6]) := by
  decide +kernel
-- R300: cells of row 20 of the version 2 picture
theorem test_mxGeometry_alignment :
    (List.range' 16 5).map (fun c => (geometryGrid 2).get 17 c) =
      [⟨.dark, true⟩, ⟨.light, true⟩, ⟨.light, true⟩, ⟨.light, true⟩, ⟨.dark, true⟩] := by
  decide +kernel

-- R320: of the cells of the first codeword 32 only (19, 20) is dark
theorem test_mxPlace_first_codeword : shows (exec .mxPlace
    { atStage .geometry 1 (buildGeometry (atStage .interleaved 1 State.reset)) with
      mem := Memory.store (buildGeometry (atStage .interleaved 1 State.reset)).mem 0x05000
        (helloDcw ++ helloEc)
      finalLen := 26, streamBits := 208 }) (fun t =>
    (t.placedBits, [(20, 20), (20, 19), (19, 20), (19, 19), (18, 20), (18, 19), (17, 20),
      (17, 19)].map fun x => (cellAt t x.1 x.2).isDark)) =
    some (208, [false, false, true, false, false, false, false, false]) := by decide +kernel
-- R320: the first cells of the second strip
theorem test_placement_order :
    ((placementOrder 21).drop 60).take 4 = [(9, 18), (9, 17), (10, 18), (10, 17)] := by
  decide +kernel

-- R340 (corner vectors)
theorem test_score_uniform_light :
    scoreOf 21 (List.replicate 21 (List.replicate 21 false)) =
      { p1 := 798, p2 := 1200, p3 := 0, p4 := 90 } := by decide +kernel
theorem test_finder_like_line : finderPenalty
    [false, false, false, false, true, false, true, true, true, false, true, false, false, false,
      false] = 80 := by decide

-- R364
theorem test_mxChecksum : shows (exec .mxChecksum (atStage .masked 1 (withPayload [] 1 0 0)))
    (fun t => (t.formatBits, t.versionBits,
      (List.range 6).map fun c => (cellAt t 8 c).isDark)) =
    some (0x5412, 0, [true, false, true, false, true, false]) := by decide +kernel
-- R364: version 7, top-right block, row 0 reads `..#`
theorem test_mxChecksum_version : shows (exec .mxChecksum
    (atStage .masked 7 (withPayload [] 1 0 0))) (fun t =>
    (t.versionBits, (List.range' 34 3).map fun c => (cellAt t 0 c).isDark)) =
    some (0x07C94, [false, false, true]) := by decide +kernel

-- R391, R340: HELLO WORLD end to end
theorem test_encodeQr : shows (exec .encodeQr (withPayload hello 1 0 0)) (fun t =>
    (t.status.stage, t.arVersion, t.maskSel, t.formatBits, t.penalty[0], t.penalty[7])) =
    some (.checksummed, { version := 1, side := 21 }, 0, 0x5412, 390, 468) := by decide +kernel
theorem test_encodeQr_illegal_config : shows (exec .encodeQr (withPayload hello 1 3 0)) (fun t =>
    (t.status.errCode, t.status.stage, t.errInfo.band)) =
    some (.illegalConfig, .idle, 3) := by decide

/-! ## The bus and the sequencer -/

/-- The answers after `n` steps, newest first. -/
def answers (n : Nat) (s : State) : Option (List Response) :=
  shows (Host.Core.run Sys2Proof.core n s) State.outbox

-- R101: a word write to the payload is read back byte by byte
theorem test_little_endian :
    answers 2 (hostState [w32 0x02000 0x44332211, r8 0x02001]) =
      some [.read .okay 0x22, .write .okay] := by decide
-- R102, R104, R107
theorem test_bad_accesses :
    answers 4 (hostState [busRead .four 0x02002, busRead .two 0x004, r32 0x030, w8 0x06000 1]) =
      some [.write .error, .read .error 0, .read .error 0, .read .error 0] := by decide
-- R106
theorem test_read_only_refused :
    answers 3 (hostState [w32 0x028 5, w8 0x01100 1, w32 0x10000 7]) =
      some [.write .error, .write .error, .write .error] := by decide
-- R140, R460, R110: a command with two more cycles refuses a write, then completes
theorem test_command_lifecycle :
    answers 6 { hostState [w32 0x020 0x53, cmdWrite .gfAdd, w32 0x024 1, r32 0x00C, r32 0x00C]
                with latencies := [2] } =
      some [.read .okay 2, .read .okay 1, .write .error, .write .okay, .write .okay] := by decide
-- R412, R31: DOMAIN is 6 and BAD_LENGTH 7 in STATUS[11:8], above ERRSTICKY, ERR and DONE
theorem test_error_code_domain :
    answers 3 (hostState [cmdWrite .gfLog, r32 0x00C]) =
      some [.read .okay 0x60E, .write .okay] := by decide
theorem test_error_code_length :
    answers 4 (hostState [w32 0x02C 0x00210000, cmdWrite .rsGenpoly, r32 0x00C]) =
      some [.read .okay 0x70E, .write .okay, .write .okay] := by decide
-- R415
theorem test_illegal_opcode :
    answers 2 (hostState [w32 0x008 0x107, r32 0x010]) =
      some [.read .okay 0x07, .write .okay] := by decide
-- R452: a soft reset abandons the command in progress and keeps the payload
theorem test_soft_reset :
    shows (Host.Core.run Sys2Proof.core 1 { busyState [w32 0x004 3] with
      mem := Memory.store [] 0x02000 [0x41] }) (fun t =>
      (t.status.busy, t.ctrlIE, t.cmd, Memory.get? t.mem 0x02000)) =
      some (false, true, 0, some 0x41) := by decide
-- R451: accesses while rst_n is low
theorem test_hardware_reset :
    shows (Host.Core.run Sys2Proof.core 3 (hostState [w8 0x02000 0x41, .rstN false, w8 0x02000 1]))
      (fun t => (t.outbox, Memory.get? t.mem 0x02000)) =
      some ([.write .error, .write .okay], none) := by decide
-- R451: the falling reset input comes before a command that would complete
theorem test_reset_precedes_completion :
    shows (step { (withOperands 1 2).issue 0x00000001 0 with inbox := [.rstN false] })
      (fun t => (t.rstN, t.status.done, t.result)) = some (false, false, 0) := by decide
-- R102, 93 U9: a misaligned read gives 0 also while rst_n is low
theorem test_low_reset_misaligned :
    answers 2 { hostState [busRead .two 0x02001, w32 0x020 5] with rstN := false } =
      some [.write .error, .read .error 0] := by decide
-- R105, log entry 2: an ANALYZE that no version fits has drawn the payload
theorem test_analyze_failure_draws :
    shows (exec .analyze (withPayload hello 0 0 10)) (fun t => (t.status.errCode, t.draws)) =
      some (.payloadTooLarge, 1) := by decide +kernel
-- Log entry 5
theorem test_fetch_word :
    shows (step (State.reset.withFetchWord 32 0x05)) State.result = some 1 := by decide

/-! ## Witnesses: states and operands that meet the statements' hypotheses -/

/-- An idle machine with this event next: the hypothesis of every bus statement. -/
theorem witness_idle_host (e : HostEvent) (rest : List HostEvent) :
    idleWith (hostState (e :: rest)) e rest := ⟨rfl, rfl, rfl⟩

/-- A busy machine with this event next. -/
theorem witness_busy_host (e : HostEvent) (rest : List HostEvent) :
    busyWith (busyState (e :: rest)) e rest := ⟨rfl, rfl, Nat.succ_ne_zero 1, rfl⟩

theorem witness_StepRunsTheDecodedCommand :
    (busyState []).rstN = true ∧ (busyState []).status.busy = true ∧
    decode (busyState []).cmd = some .gfAdd ∧
    ({ busyState [] with wait := 0 } : State).wait = 0 ∧
    ∀ rest, ({ busyState [] with wait := 0 } : State).inbox ≠ .rstN false :: rest :=
  ⟨by decide, by decide, by decide, by decide, fun _ h => nomatch h⟩

theorem witness_ReadsHaveNoSideEffects :
    (∀ s ∈ [hostState [.access (.read 0x3FFFF .one)], hostState [.idle], hostState [],
      busyState [.access (.read 0 .four)]],
      ¬ (s.rstN = true ∧ s.status.busy = true ∧ s.wait = 0)) ∧
    (hostState [.access (.read 0x3FFFF .one)]).inbox = .access (.read 0x3FFFF .one) :: [] ∧
    (busyState [.access (.read 0 .four)]).inbox = .access (.read 0 .four) :: [] ∧
    (hostState [.idle]).inbox = .idle :: [] ∧ (hostState []).inbox = [] := by decide

theorem witness_IssuedCommandRunsAfterItsLatency :
    (busyState []).rstN = true ∧ (busyState []).status.busy = true ∧
    decode (busyState []).cmd = some .gfAdd ∧ (busyState []).inbox = [] := by decide

theorem witness_CommandWriteIssuesCommand :
    idleWith (hostState [.access (.write 0x008 .four 0x4F)]) (.access (.write 0x008 .four 0x4F)) []
      ∧ decode 0x4F = some .encodeQr := by decide

theorem witness_IllegalWordCompletesAtOnce :
    idleWith (hostState [.access (.write 0x008 .four 0x50)]) (.access (.write 0x008 .four 0x50)) []
      ∧ decode 0x50 = none := by decide

theorem witness_BusyRefusesWrites :
    (busyWith (busyState [.access (.write 0x008 .four 1)]) (.access (.write 0x008 .four 1)) [] ∧
      (0x008 : Offset) ≠ 0x004) ∧
    busyWith (busyState [.access (.write 0x004 .one 2)]) (.access (.write 0x004 .one 2)) [] ∧
      AccessSize.one ≠ .four :=
  ⟨⟨witness_busy_host _ _, by decide⟩, witness_busy_host _ _, by decide⟩

theorem witness_BusyReadsShowControlRegisters (a : Offset) (size : AccessSize) :
    busyWith (busyState [.access (.read a size)]) (.access (.read a size)) [] ∧
    (goodForm 0x02000 .four ∧ ¬ unmapped 0x02000) ∧ unmapped 0x00200 ∧
    ¬ goodForm 0x02001 .two := by
  refine ⟨witness_busy_host _ _, ⟨by decide, ?_⟩, ?_, by decide⟩ <;> unfold unmapped <;> omega

theorem witness_BadAccessesAreRefused (a : Offset) (size : AccessSize) (w : Word) :
    (0x02001 % AccessSize.two.bytes ≠ 0) ∧ (0x1FF < 0x200 ∧ AccessSize.one ≠ .four) ∧
    (unmapped 0x00200 ∧ unmapped 0x3FFFF ∧ unmapped 0x1FC) ∧
    (∀ level, ({ hostState [.access (.write a size w)] with rstN := level } : State).status.busy =
      false) ∧
    (hostState [.access (.write a size w)]).inbox = .access (.write a size w) :: [] ∧
    (hostState [.access (.read a size)]).inbox = .access (.read a size) :: [] := by
  refine ⟨by decide, by decide, ⟨?_, ?_, ?_⟩, fun _ => rfl, rfl, rfl⟩ <;>
    unfold unmapped <;> omega

theorem witness_WritesRespectAccessRights :
    (idleWith (hostState [.access (.write 0x1FFFF .one 0)]) (.access (.write 0x1FFFF .one 0)) [] ∧
      goodForm 0x1FFFF .one ∧ readOnly 0x1FFFF ∧ readOnly 0x010 ∧ readOnly 0x05FFF) ∧
    idleWith (hostState [w32 0x00C 10]) (.access (.write 0x00C .four 10)) [] ∧
    idleWith (hostState [w32 0x02C 0xFFFFFFFF, r32 0x02C])
      (.access (.write 0x02C .four 0xFFFFFFFF)) (.access (.read 0x02C .four) :: []) ∧
    ((0xFFFFFFFD : Word).getLsbD 1 = false ∧
      idleWith (hostState [w32 0x004 0xFFFFFFFD, r32 0x004])
        (.access (.write 0x004 .four 0xFFFFFFFD)) (.access (.read 0x004 .four) :: [])) := by
  refine ⟨⟨witness_idle_host _ _, by decide, ?_, ?_, ?_⟩, witness_idle_host _ _,
    witness_idle_host _ _, by decide, witness_idle_host _ _⟩ <;> unfold readOnly <;> omega

theorem witness_RegisterReadsShowTheirFields :
    (hostState [r32 0x010]).rstN = true ∧ (hostState [r32 0x010]).status.busy = false ∧
    (hostState [r32 0x010]).inbox = .access (.read (BitVec.ofNat 18 0x010) .four) :: [] := by
  decide

theorem witness_BufferWritesAreLittleEndian (a : Offset) (w : Word) :
    idleWith (hostState [.access (.write a .four w)]) (.access (.write a .four w)) [] ∧
    ∀ x ∈ [0x01000, 0x010FC, 0x02000, 0x03FFC], goodForm x .four ∧
      ((0x01000 ≤ x ∧ x < 0x01100) ∨ (0x02000 ≤ x ∧ x < 0x04000)) :=
  ⟨witness_idle_host _ _, by decide⟩

theorem witness_BufferReadsAreLittleEndian (a : Offset) :
    idleWith (hostState [.access (.read a .four)]) (.access (.read a .four)) [] ∧
    (∀ x ∈ [0x01000, 0x0123C, 0x05FFC, 0x10000, 0x1FFFC], goodForm x .four ∧ 0x200 ≤ x) ∧
    (¬ unmapped 0x01000 ∧ ¬ unmapped 0x0123C ∧ ¬ unmapped 0x05FFC ∧ ¬ unmapped 0x10000 ∧
      ¬ unmapped 0x1FFFC) ∧
    Memory.get? (Memory.store [] 0x01000 [7]) 0x01000 = some 7 := by
  refine ⟨witness_idle_host _ _, by decide, ⟨?_, ?_, ?_, ?_, ?_⟩, by decide⟩ <;>
    unfold unmapped <;> omega

theorem witness_ConfigurationWritesInvalidateStage (a : Offset) (w : Word) :
    idleWith (hostState [.access (.write a .four w)]) (.access (.write a .four w)) [] :=
  witness_idle_host _ _

theorem witness_SoftResetClearsRegistersKeepsBuffers :
    (∀ s ∈ [hostState [w32 0x004 3], busyState [w32 0x004 3]],
      s.rstN = true ∧ ¬ (s.status.busy = true ∧ s.wait = 0) ∧
      s.inbox = .access (.write 0x004 .four 3) :: []) ∧
    (3 : Word).getLsbD 1 = true ∧ (1 : Word).getLsbD 1 = false ∧
    (hostState [w32 0x004 1]).inbox = .access (.write 0x004 .four 1) :: [] := by decide

/-- The core held in reset, with host events waiting. -/
def lowState (es : List HostEvent) : State := { hostState es with rstN := false }

theorem witness_HardwareResetPutsResetState :
    ({ busyState [.rstN false] with wait := 0 } : State).inbox = .rstN false :: [] ∧
    (∀ es, (lowState es).rstN = false ∧ (lowState es).status.busy = false ∧
      (lowState es).inbox = es) ∧
    ∀ es, ResetInv (lowState es) :=
  ⟨rfl, fun _ => ⟨rfl, rfl, rfl⟩, fun _ _ => rfl⟩

theorem witness_InterruptFollowsCompletion :
    (∃ t, exec .nop State.reset = .next t) ∧
    (decode 1 = some .gfAdd ∧ idleWith (hostState [w32 0x008 1])
      (.access (.write 0x008 .four 1)) [] ∧ ∃ t, step (hostState [w32 0x008 1]) = .next t) ∧
    ((2 : Word).getLsbD 1 = true ∧ idleWith (hostState [w32 0x00C 2])
      (.access (.write 0x00C .four 2)) [] ∧ ∃ t, step (hostState [w32 0x00C 2]) = .next t) :=
  ⟨⟨_, rfl⟩, ⟨by decide, by decide, _, rfl⟩, by decide, by decide, _, rfl⟩

theorem witness_StageMovesAsTabulated :
    (State.reset.status.err = false ∧ ∃ t, exec .encodeData State.reset = .next t) ∧
    singleStage .mxChecksum = some (.masked, .checksummed) ∧
    State.reset.status.stage ≠ .masked ∧
    (atStage .masked 1 State.reset).status.stage = .masked :=
  ⟨⟨rfl, _, rfl⟩, rfl, by decide, rfl⟩

theorem witness_OnlyTabulatedLocationsChange :
    ((atStage .analyzed 40 State.reset).status.stage ≠ .idle →
      1 ≤ (atStage .analyzed 40 State.reset).version ∧
      (atStage .analyzed 40 State.reset).version ≤ 40) ∧
    ∃ t, exec .nop (atStage .analyzed 40 State.reset) = .next t := ⟨by decide, _, rfl⟩

theorem witness_UnnamedOperandBitsAreIgnored :
    (0xFFFFFE53 : Word).extractLsb' 0 9 = (0x053 : Word).extractLsb' 0 9 ∧
    (0xFFFFFFF5 : Word).extractLsb' 0 3 = (0x005 : Word).extractLsb' 0 3 := by decide

theorem witness_GfDivWritesQuotient :
    (withOperands 1 0xFF).opb.extractLsb' 0 8 ≠ 0 ∧
    (withOperands 0 0xFFFFFF00).opb.extractLsb' 0 8 = 0 := by decide

theorem witness_GfLogWritesExponent :
    (withOperands 0xFF 0).opa.extractLsb' 0 8 ≠ 0 ∧
    (withOperands 0x100 0).opa.extractLsb' 0 8 = 0 := by decide

/-- The error clauses of the four RS statements, each at its boundary. -/
theorem witness_rsErrors :
    (withCode [] 0 0).rsCfg.n = 0 ∧ 32 < (withCode [] 0 33).rsCfg.n.toNat ∧
    ((withCode [] 257 1).rsCfg.n ≠ 0 ∧ 256 < (withCode [] 257 1).rsCfg.k.toNat) := by decide

/-- The limits of RS_GENPOLY, RS_ENCODE, RS_REMAINDER, RS_SYNDROME and of
CodewordChecksAgree are met at both ends of their ranges. -/
theorem witness_rs_limits :
    ∀ s ∈ [withCode [] 0 1, withCode [] 256 32],
      1 ≤ s.rsCfg.n.toNat ∧ s.rsCfg.n.toNat ≤ 32 ∧ s.rsCfg.k.toNat ≤ 256 := by decide

theorem witness_CodewordChecksAgree :
    ∃ t u, exec .rsRemainder (withCode [] 0 1) = .next t ∧
      exec .rsSyndrome (withCode [] 0 1) = .next u := ⟨_, _, rfl, rfl⟩

theorem witness_ClassifyWritesClassification :
    ({ State.reset with payloadLen := 8192 } : State).payloadLen.toNat ≤ 8192 ∧
    8192 < ({ State.reset with payloadLen := 8193 } : State).payloadLen.toNat := by decide

theorem witness_AnalyzeSelectsLeastVersion :
    (withPayload hello 1 0 0).payloadLen.toNat ≤ 8192 ∧
    versionSelected (withPayload hello 1 0 0) (payloadOf (withPayload hello 1 0 0)) 1 := by
  decide +kernel

/-- The error clauses of ANALYZE and ENCODE_QR. -/
theorem witness_analyzerErrors :
    (withPayload [] 0 3 0).config.band = 3 ∧
    (({ State.reset with payloadLen := 8193 } : State).config.band ≠ 3 ∧
      8192 < ({ State.reset with payloadLen := 8193 } : State).payloadLen.toNat) ∧
    ((withPayload [] 0 0 10).config.band ≠ 3 ∧
      ∀ v, ¬ versionFits (withPayload [] 0 0 10) (payloadOf (withPayload [] 0 0 10)) v) := by
  refine ⟨by decide, by decide, by decide, fun v h => ?_⟩
  have h1 : v ≤ 9 := h.2.1
  have h2 : 10 ≤ v := h.2.2.1
  omega

theorem witness_EncodeDataStoresPaddedStream :
    let s := { atStage .analyzed 1 (withPayload hello 1 0 0) with
      arMode := { mode := 2, eci := false }, arCount := 11 }
    s.status.stage = .analyzed ∧ 1 ≤ s.version ∧ s.version ≤ 40 ∧
    s.arMode.mode.toNat = modeCode (textMode (payloadOf s)) ∧
    s.arCount.toNat < 2 ^ countWidth (textMode (payloadOf s)) s.version ∧
    fieldsWidth (headerFields (textMode (payloadOf s)) s.arMode.eci s.arCount.toNat s.version ++
      payloadFields (textMode (payloadOf s)) (payloadOf s)) ≤
      8 * dataBytes (blockRom s.version s.config.ecl) := by decide +kernel

/-- A stage that is none of the six commands' own: their error clause. -/
theorem witness_phaseErrors : ∀ g ∈ [Stage.analyzed, .encoded, .interleaved, .geometry, .placed,
    .masked], State.reset.status.stage ≠ g := by decide

theorem witness_InterleaveStoresCodewordColumns :
    ∀ v ∈ [(1 : BitVec 6), 40], (atStage .encoded v State.reset).status.stage = .encoded ∧
      1 ≤ (atStage .encoded v State.reset).version ∧
      (atStage .encoded v State.reset).version ≤ 40 := by decide

theorem witness_MxGeometryBuildsFunctionPatterns :
    ∀ v ∈ [(1 : BitVec 6), 40], (atStage .interleaved v State.reset).status.stage = .interleaved ∧
      1 ≤ (atStage .interleaved v State.reset).version ∧
      (atStage .interleaved v State.reset).version ≤ 40 := by decide

theorem witness_DataCellCountMatchesStream : 1 ≤ 40 ∧ 40 ≤ 40 := by decide

theorem witness_RomRowsSatisfyInvariants :
    (1 ≤ 1 ∧ 1 ≤ 40) ∧ (1 ≤ 40 ∧ 40 ≤ 40 ∧ 2 ≤ 40) ∧ (blockRom 40 3).count2 ≠ 0 := by decide

theorem witness_MxPlaceFollowsZigzag :
    ∀ v ∈ [(1 : BitVec 6), 40], (atStage .geometry v State.reset).status.stage = .geometry ∧
      1 ≤ (atStage .geometry v State.reset).version ∧
      (atStage .geometry v State.reset).version ≤ 40 := by decide

/-- Version 1 after the geometry phase, with its stream length. -/
def geometryState : State :=
  { buildGeometry (atStage .interleaved 1 State.reset) with finalLen := 26, streamBits := 208 }

theorem witness_PlacementResolvesEveryCell :
    geometryState.status.stage = .geometry ∧ 1 ≤ geometryState.version ∧
    geometryState.version ≤ 40 ∧
    (∀ r < 4 * geometryState.version + 17, ∀ c < 4 * geometryState.version + 17,
      cellAt geometryState r c = geometryCell geometryState.version r c) ∧
    geometryState.streamBits.toNat =
      8 * totalCodewords (blockRom geometryState.version geometryState.config.ecl) +
        remRom geometryState.version ∧
    ∃ t, exec .mxPlace geometryState = .next t := by
  refine ⟨rfl, by decide, by decide, fun r hr c hc => ?_, by decide, _, rfl⟩
  have h := geometryState.readGrid_get hr hc
  rw [cellAt, byteAt, show 0x10000 + 256 * r + c = slotOffset r c from rfl, ← h]
  exact (by decide +kernel : ∀ r < 21, ∀ c < 21, (geometryState.readGrid 21).get r c =
    geometryCell 1 r c) r hr c hc

theorem witness_ScorecardCountsRules :
    1 ≤ 1 ∧ [[true]].length = 1 ∧ ∀ row ∈ [[true]], row.length = 1 := by decide

/-- Version 1 with every cell light. -/
def lightState : State :=
  atStage .placed 1 (State.reset.writeGrid (List.replicate 21 (List.replicate 21 ⟨.light, false⟩)))

theorem witness_MxMaskAppliesBestMask :
    lightState.status.stage = .placed ∧ 1 ≤ lightState.version ∧ lightState.version ≤ 40 ∧
    ∀ r < 4 * lightState.version + 17, ∀ c < 4 * lightState.version + 17,
      (cellAt lightState r c).state ≠ .unset := by
  refine ⟨rfl, by decide, by decide, fun r hr c hc => ?_⟩
  have h := lightState.readGrid_get hr hc
  rw [cellAt, byteAt, show 0x10000 + 256 * r + c = slotOffset r c from rfl, ← h]
  exact (by decide +kernel : ∀ r < 21, ∀ c < 21,
    ((lightState.readGrid 21).get r c).state ≠ .unset) r hr c hc

theorem witness_MaskingIsAnInvolution :
    (∀ row ∈ [[MCell.mk .dark false, MCell.mk .unset true]], ∀ x ∈ row,
      x.func = false → x.state ≠ .unset) ∧
    (Grid.get [[MCell.mk .dark false, MCell.mk .unset true]] 0 1).func = true := by decide

theorem witness_MxChecksumWritesBothCopies :
    ∀ v ∈ [(1 : BitVec 6), 6, 7, 40], (atStage .masked v State.reset).status.stage = .masked ∧
      1 ≤ (atStage .masked v State.reset).version ∧
      (atStage .masked v State.reset).version ≤ 40 := by decide

theorem witness_EncodeQrEqualsSevenStages :
    (withPayload hello 1 0 0).payloadLen.toNat ≤ 8192 ∧
    (∀ i < (withPayload hello 1 0 0).payloadLen.toNat,
      Memory.get? (withPayload hello 1 0 0).mem (0x02000 + i) ≠ none) ∧
    versionSelected (withPayload hello 1 0 0) (payloadOf (withPayload hello 1 0 0)) 1 := by
  decide +kernel

theorem witness_StepKeepsStatusInvariant :
    StatusInv (busyState []) ∧ ∃ t, step (busyState []) = .next t :=
  ⟨⟨by decide, by decide, by decide, by decide, by decide, by decide⟩, _, rfl⟩

theorem witness_StepKeepsResetState :
    (ResetInv (lowState [r32 0]) ∧ (lowState [r32 0]).rstN = false) ∧
    ∃ t, step (lowState [r32 0]) = .next t := ⟨⟨fun _ => rfl, rfl⟩, _, rfl⟩

theorem witness_StepKeepsCoreInvariant :
    CoreInv (busyState []) ∧ ∃ t, step (busyState []) = .next t := by
  have hz : (busyState []).status.stage = .idle := rfl
  refine ⟨⟨⟨by decide, by decide, by decide, by decide, by decide, by decide⟩,
    fun h => absurd h (by decide), ⟨by decide, fun c hc => absurd hc List.not_mem_nil⟩,
    ⟨.inl rfl, fun c hc => absurd hc List.not_mem_nil, fun h => absurd rfl h⟩,
    ⟨fun e he => absurd he List.not_mem_nil, List.Pairwise.nil, Nat.zero_le _⟩, ?_⟩, _, rfl⟩
  refine ⟨?_, ?_, ?_, ?_, ?_, ?_, ?_, ?_, ?_, ?_, ?_, ?_, by decide, ?_⟩ <;> intro h <;>
    first
      | exact absurd hz h
      | exact absurd (show 2 ≤ 0 from h) (by decide)
      | exact absurd (show 3 ≤ 0 from h) (by decide)
      | exact absurd (show 4 ≤ 0 from h) (by decide)
      | exact absurd (show 5 ≤ 0 from h) (by decide)
      | exact absurd h (by decide)

end Sys2Proof.Tests
end

section
/-! SUPPORT. What a command and a cycle of the host can do, said once for all the
invariants: the rule of each command, the states a successful rule can reach, and the
changes that make up a cycle of the host. -/

namespace Sys2Proof.Machine

/-! ## The rule of a command -/

/-- The rule of a command, step 2 of its lifecycle (R410). -/
def ruleOf : Instr → State → Except ErrCode State
  | .nop, s => .ok s
  | .gfAdd, s => .ok (gfResult (gfAdd s.opA8 s.opB8) s)
  | .gfMul, s => .ok (gfResult (gfMul s.opA8 s.opB8) s)
  | .gfDiv, s => (gfDiv s.opA8 s.opB8).map fun r => gfResult r s
  | .gfPow, s => .ok (gfResult (gfPow s.opA8 s.opB8.toNat) s)
  | .gfExp, s => .ok (gfResult (expRom s.opA9.toNat) s)
  | .gfLog, s => (gfLog s.opA8).map fun r => gfResult r s
  | .rsGenpoly, s => (rsCheck false s).map fun _ =>
      ((s.writeBuf .gen (genpoly s.rsN)).setResult (BitVec.ofNat 32 (s.rsN + 1))).usesGenerator
        s.rsN
  | .rsEncode, s => (rsCheck true s).map fun _ =>
      (((s.writeBuf .rsout (rsEc s.rsInput s.rsN)).setResult
        (BitVec.ofNat 32 s.rsN)).usesGenerator s.rsN).drawn
  | .rsRemainder, s => (rsCheck true s).map fun _ =>
      let r := rsRemainder s.rsInput s.rsN
      (((s.writeBuf .rsout r).setResult (allZeroFlag r)).usesGenerator s.rsN).drawn
  | .rsSyndrome, s => (rsCheck true s).map fun _ =>
      let r := rsSyndromes s.rsInput s.rsN
      ((s.writeBuf .rsout r).setResult (allZeroFlag r)).drawn
  | .bchFormat, s => .ok (s.setResult (BitVec.ofNat 32 (formatInfo s.opA2 s.opB3.toNat)))
  | .bchVersion, s => .ok (s.setResult (BitVec.ofNat 32 (versionInfo s.opA6.toNat)))
  | .classify, s => if tooLong s then .error .payloadTooLarge
      else .ok (writeClass (classify s.payload) s).drawn
  | .analyze, s => (selectVersion s).map fun r => (writeAnalysis r.2.1 r.2.2 s).drawn
  | .encodeData, s => inStage .analyzed (fun s => (encodeData s.payload s).drawn) s
  | .interleave, s => inStage .encoded (fun s => (interleave s).drawn) s
  | .mxGeometry, s => inStage .interleaved buildGeometry s
  | .mxPlace, s => inStage .geometry (fun s => (placeData s).drawn) s
  | .mxMask, s => inStage .placed (maskMatrix Config.maskLanes) s
  | .mxChecksum, s => inStage .masked writeChecksums s
  | .encodeQr, s => (selectVersion s).map fun r =>
      (pipelineTail r.1 (writeAnalysis r.2.1 r.2.2 s)).drawn

theorem exec_eq_runCommand (i : Instr) (s : State) : exec i s = runCommand i (ruleOf i) s := by
  cases i <;> rfl

/-- The states that a successful rule can reach from `s`, grouped by what they change. -/
inductive RuleEffect (s : State) : State → Prop
  /-- NOP (R390). -/
  | keep : RuleEffect s s
  /-- The GF and BCH commands (R178, R361, R363). -/
  | result (r : Word) : RuleEffect s (s.setResult r)
  /-- The RS commands (R202-R205): RSOUT or GEN, RESULT, the cache and the draws. -/
  | rsBuffer (g : Region) (bytes : List Byte) (r : Word) (cache : List GenEntry) (draws : Nat)
      (size : g = .gen ∧ bytes.length ≤ 33 ∨ g = .rsout ∧ bytes.length ≤ 32)
      (cached : cache = s.genCache ∨ ∃ n, cache = cacheGenerator n s.genCache) :
      RuleEffect s { (s.writeBuf g bytes).setResult r with genCache := cache, draws := draws }
  /-- CLASSIFY (R237). -/
  | classify (fits : tooLong s = false) :
      RuleEffect s (writeClass (classify s.payload) s).drawn
  /-- ANALYZE (R245). -/
  | analyze (v : Nat) (selected : selectVersion s = .ok (s.payload, classify s.payload, v)) :
      RuleEffect s (writeAnalysis (Machine.classify s.payload) v s).drawn
  /-- ENCODE_DATA (R260). -/
  | encodeData (stage : s.status.stage = .analyzed) :
      RuleEffect s (encodeData s.payload s).drawn
  /-- INTERLEAVE (R280). -/
  | interleave (stage : s.status.stage = .encoded) : RuleEffect s (interleave s).drawn
  /-- MX_GEOMETRY (R300). -/
  | geometry (stage : s.status.stage = .interleaved) : RuleEffect s (buildGeometry s)
  /-- MX_PLACE (R320). -/
  | place (stage : s.status.stage = .geometry) : RuleEffect s (placeData s).drawn
  /-- MX_MASK (R340). -/
  | mask (stage : s.status.stage = .placed) : RuleEffect s (maskMatrix Config.maskLanes s)
  /-- MX_CHECKSUM (R364). -/
  | checksum (stage : s.status.stage = .masked) : RuleEffect s (writeChecksums s)
  /-- ENCODE_QR (R391). -/
  | encodeQr (v : Nat) (selected : selectVersion s = .ok (s.payload, classify s.payload, v)) :
      RuleEffect s
        (pipelineTail s.payload (writeAnalysis (Machine.classify s.payload) v s)).drawn

/-- A mapped check succeeds exactly where the check does. -/
theorem exceptMap_eq_ok_iff {ε α β : Type} {x : Except ε α} {f : α → β} {b : β} :
    x.map f = .ok b ↔ ∃ a, x = .ok a ∧ f a = b := by
  cases x <;> simp [Except.map]

/-- A mapped check fails exactly where the check does. -/
theorem exceptMap_eq_error_iff {ε α β : Type} {x : Except ε α} {f : α → β} {e : ε} :
    x.map f = .error e ↔ x = .error e := by
  cases x <;> simp [Except.map]

theorem inStage_eq_ok_iff {g : Stage} {rule : State → State} {s u : State} :
    inStage g rule s = .ok u ↔ s.status.stage = g ∧ rule s = u := by
  unfold inStage
  split <;> simp_all

theorem inStage_eq_error_iff {g : Stage} {rule : State → State} {s : State} {e : ErrCode} :
    inStage g rule s = .error e ↔ s.status.stage ≠ g ∧ e = .phaseOrder := by
  unfold inStage
  split <;> simp_all [eq_comm]

/-- The division loop drops one byte per round (R204). -/
theorem polyReduce_length (g : List Byte) (k : Nat) (r : List Byte) :
    (polyReduce g k r).length = r.length - k := by
  induction k generalizing r with
  | zero => rfl
  | succ k ih =>
    cases r with
    | nil => simp [polyReduce]
    | cons f r => rw [polyReduce, ih, xorOnto_length, List.length_cons]; omega

/-- The remainder has n bytes (R204). -/
theorem rsRemainder_length (c : List Byte) (n : Nat) : (rsRemainder c n).length = n := by
  unfold rsRemainder
  split
  · simp; omega
  · rw [polyReduce_length]; omega

/-- What a successful rule can do, for every command. -/
theorem ruleOf_ok {i : Instr} {s u : State} (h : ruleOf i s = .ok u) : RuleEffect s u := by
  cases i
  case nop => cases h; exact .keep
  case gfAdd | gfMul | gfPow | gfExp | bchFormat | bchVersion => cases h; exact .result _
  case gfDiv | gfLog =>
    obtain ⟨r, -, rfl⟩ := exceptMap_eq_ok_iff.mp h
    exact .result _
  case rsGenpoly =>
    obtain ⟨_, hc, rfl⟩ := exceptMap_eq_ok_iff.mp h
    have hn := (rsCheck_ok_iff _ _).mp hc
    exact .rsBuffer .gen _ _ _ _ (.inl ⟨rfl, by rw [genpoly_length]; omega⟩) (.inr ⟨_, rfl⟩)
  case rsEncode =>
    obtain ⟨_, hc, rfl⟩ := exceptMap_eq_ok_iff.mp h
    have hn := (rsCheck_ok_iff _ _).mp hc
    exact .rsBuffer .rsout _ _ _ _ (.inr ⟨rfl, by rw [rsEc_length _ _ hn.1]; omega⟩)
      (.inr ⟨_, rfl⟩)
  case rsRemainder =>
    obtain ⟨_, hc, rfl⟩ := exceptMap_eq_ok_iff.mp h
    have hn := (rsCheck_ok_iff _ _).mp hc
    exact .rsBuffer .rsout _ _ _ _ (.inr ⟨rfl, by rw [rsRemainder_length]; omega⟩) (.inr ⟨_, rfl⟩)
  case rsSyndrome =>
    obtain ⟨_, hc, rfl⟩ := exceptMap_eq_ok_iff.mp h
    have hn := (rsCheck_ok_iff _ _).mp hc
    exact .rsBuffer .rsout _ _ _ _ (.inr ⟨rfl, by simp [rsSyndromes]; omega⟩) (.inl rfl)
  case classify =>
    simp only [ruleOf] at h
    split at h
    · cases h
    · rename_i hl; cases h; exact .classify (by simpa using hl)
  case analyze =>
    obtain ⟨⟨p, a, v⟩, hr, rfl⟩ := exceptMap_eq_ok_iff.mp h
    obtain ⟨rfl, rfl, -⟩ := selectVersion_ok hr
    exact .analyze v hr
  case encodeQr =>
    obtain ⟨⟨p, a, v⟩, hr, rfl⟩ := exceptMap_eq_ok_iff.mp h
    obtain ⟨rfl, rfl, -⟩ := selectVersion_ok hr
    exact .encodeQr v hr
  all_goals
    simp only [ruleOf, inStage_eq_ok_iff] at h
    obtain ⟨hs, rfl⟩ := h
  case encodeData => exact .encodeData hs
  case interleave => exact .interleave hs
  case mxGeometry => exact .geometry hs
  case mxPlace => exact .place hs
  case mxMask => exact .mask hs
  case mxChecksum => exact .checksum hs

/-- The error of a rule is never the code of no error (R412). -/
theorem ruleOf_error {i : Instr} {s : State} {e : ErrCode} (h : ruleOf i s = .error e) :
    e ≠ .none := by
  rintro rfl
  cases i
  case nop | gfAdd | gfMul | gfPow | gfExp | bchFormat | bchVersion => cases h
  case gfDiv =>
    have h := exceptMap_eq_error_iff.mp h
    unfold gfDiv at h
    split_ifs at h
    cases h
  case gfLog =>
    have h := exceptMap_eq_error_iff.mp h
    unfold gfLog at h
    split_ifs at h
    cases h
  case rsGenpoly | rsEncode | rsRemainder | rsSyndrome =>
    have h := exceptMap_eq_error_iff.mp h
    unfold rsCheck at h
    split_ifs at h <;> cases h
  case classify =>
    simp only [ruleOf] at h
    split_ifs at h
    cases h
  case analyze | encodeQr =>
    have h := exceptMap_eq_error_iff.mp h
    unfold selectVersion at h
    split at h
    · split_ifs at h
      · cases h
      · simp only at h; split at h <;> cases h
    · cases h
  case encodeData | interleave | mxGeometry | mxPlace | mxMask | mxChecksum =>
    simp only [ruleOf, inStage_eq_error_iff] at h
    exact absurd h.2 (by decide)

/-- Everything that a command can do. -/
theorem exec_cases {i : Instr} {s t : State} (h : exec i s = .next t) :
    (∃ u, RuleEffect s u ∧ t = u.complete) ∨ (∃ e, e ≠ .none ∧ t = s.fail i e) := by
  rw [exec_eq_runCommand] at h
  obtain ⟨u, hu, rfl⟩ | ⟨e, he, rfl⟩ := runCommand_cases h
  · exact .inl ⟨u, ruleOf_ok hu, rfl⟩
  · exact .inr ⟨e, ruleOf_error he, rfl⟩

/-! ## What a rule leaves alone -/

/-- `u` is `s` as far as rst_n, the latency and STATUS go, with STAGE moved to `g`. -/
def MovesStage (g : Stage) (s u : State) : Prop :=
  u.rstN = s.rstN ∧ u.wait = s.wait ∧ u.status = s.status.withStage g

theorem MovesStage.trans {g g' : Stage} {s u t : State} (h : MovesStage g s u)
    (h' : MovesStage g' u t) : MovesStage g' s t := by
  obtain ⟨hr, hw, hs⟩ := h
  obtain ⟨hr', hw', hs'⟩ := h'
  exact ⟨hr'.trans hr, hw'.trans hw, by rw [hs', hs]; rfl⟩

theorem MovesStage.drawn {g : Stage} {s u : State} (h : MovesStage g s u) :
    MovesStage g s u.drawn := h

theorem writeAnalysis_moves (a : Analysis) (v : Nat) (s : State) :
    MovesStage .analyzed s (writeAnalysis a v s) := ⟨rfl, rfl, rfl⟩
theorem encodeData_moves (p : List Byte) (s : State) :
    MovesStage .encoded s (encodeData p s) := ⟨rfl, rfl, rfl⟩
theorem interleave_moves (s : State) : MovesStage .interleaved s (interleave s) :=
  ⟨rfl, rfl, rfl⟩
theorem buildGeometry_moves (s : State) : MovesStage .geometry s (buildGeometry s) := by
  simp [MovesStage, buildGeometry]
theorem placeData_moves (s : State) : MovesStage .placed s (placeData s) := ⟨rfl, rfl, rfl⟩
theorem maskMatrix_moves (lanes : Nat) (s : State) :
    MovesStage .masked s (maskMatrix lanes s) := ⟨rfl, rfl, rfl⟩
theorem writeChecksums_moves (s : State) : MovesStage .checksummed s (writeChecksums s) :=
  ⟨rfl, rfl, rfl⟩

theorem pipelineTail_moves (p : List Byte) (s : State) :
    MovesStage .checksummed s (pipelineTail p s) :=
  (encodeData_moves p s).trans (interleave_moves _) |>.trans (buildGeometry_moves _)
    |>.trans (placeData_moves _) |>.trans (maskMatrix_moves _ _) |>.trans (writeChecksums_moves _)

/-- No rule touches rst_n, the latency or STATUS, apart from its STAGE. -/
theorem RuleEffect.moves {s u : State} (h : RuleEffect s u) : ∃ g, MovesStage g s u := by
  cases h with
  | keep | result | rsBuffer | classify => exact ⟨s.status.stage, rfl, rfl, rfl⟩
  | analyze v => exact ⟨_, (writeAnalysis_moves _ v s).drawn⟩
  | encodeData => exact ⟨_, (encodeData_moves _ s).drawn⟩
  | interleave => exact ⟨_, (interleave_moves s).drawn⟩
  | geometry => exact ⟨_, buildGeometry_moves s⟩
  | place => exact ⟨_, (placeData_moves s).drawn⟩
  | mask => exact ⟨_, maskMatrix_moves _ s⟩
  | checksum => exact ⟨_, writeChecksums_moves s⟩
  | encodeQr v =>
    exact ⟨_, ((writeAnalysis_moves _ v s).trans (pipelineTail_moves _ _)).drawn⟩

end Sys2Proof.Machine
end

section
/-! SUPPORT. The cycle of the host as a list of changes, and with it the invariants of
STATUS (10_state.md R34) and of reset (70_reset_and_hazards.md R451). -/

namespace Sys2Proof.Safety

open Sys2Proof.Machine

/-! ## What a command leaves alone -/

/-- STATUS after a command (R410, R411). -/
theorem exec_control {i : Instr} {s t : State} (h : exec i s = .next t) :
    t.rstN = s.rstN ∧ t.wait = s.wait ∧
      ((∃ g, t.status = s.status.completed.withStage g) ∨
        ∃ e g, e ≠ .none ∧ t.status = (s.status.failed e).withStage g) := by
  obtain ⟨u, hu, rfl⟩ | ⟨e, he, rfl⟩ := exec_cases h
  · obtain ⟨g, hr, hw, hg⟩ := hu.moves
    exact ⟨hr, hw, .inl ⟨g, by rw [State.complete_status, hg]; rfl⟩⟩
  · refine ⟨rfl, rfl, .inr ⟨e, if errorToIdle i then .idle else s.status.stage, he, ?_⟩⟩
    rw [State.fail_status]
    split <;> rfl

/-! ## The changes of the host's cycle -/

/-- Everything that a cycle of the host can do keeps `P`: the events and answers, the
passing of time, the resets and each accepted write (R31, R106, R109, R451, R452). -/
structure HostKeeps (P : State → Prop) : Prop where
  port {s} (inbox : List HostEvent) (outbox : List Response) (draws : Nat) (h : P s) :
    P { s with inbox := inbox, outbox := outbox, draws := draws }
  tick {s} (h : P s) : P s.tick
  fall {s} (h : P s) : P { s.hardReset with rstN := false }
  rise {s} (h : P s) : P { s with rstN := true }
  softReset {s} (ie : Bool) (high : s.rstN = true) (h : P s) : P (s.softReset ie)
  interrupt {s} (ie : Bool) (high : s.rstN = true) (h : P s) : P { s with ctrlIE := ie }
  issue {s w} (k : Nat) (ls : List Nat) (valid : (decode w).isSome = true)
    (high : s.rstN = true) (h : P s) : P { s.issue w k with latencies := ls }
  reject {s} (w : Word) (high : s.rstN = true) (idle : s.status.busy = false) (h : P s) :
    P (s.rejectCommand w)
  acknowledge {s} (w : Word) (high : s.rstN = true) (h : P s) : P (s.acknowledge w)
  configure {s} (c : CfgReg) (n : BitVec 16) (high : s.rstN = true) (h : P s) :
    P (({ s with config := c, payloadLen := n } : State).setStage .idle)
  operands {s} (a b : Word) (c : RsCfgReg) (high : s.rstN = true) (h : P s) :
    P { s with opa := a, opb := b, rsCfg := c }
  rsdata {s a size} (w : Word) (good : badForm a size = false)
    (region : regionOf a = some .rsdata) (high : s.rstN = true) (h : P s) :
    P { s with mem := Memory.store s.mem a (writeBytes size w) }
  payload {s a size} (w : Word) (good : badForm a size = false)
    (region : regionOf a = some .payload) (high : s.rstN = true) (h : P s) :
    P (({ s with mem := Memory.store s.mem a (writeBytes size w) } : State).setStage .idle)

section
variable {P : State → Prop} (keeps : HostKeeps P)
include keeps

theorem HostKeeps.writeReg {s t : State} {a : Nat} {w : Word} (high : s.rstN = true)
    (idle : s.status.busy = true → a = 0x004) (h : P s) (ht : s.writeReg a w = some t) :
    P t := by
  obtain ⟨-, rfl⟩ | ⟨rfl, rfl⟩ | ⟨-, rfl⟩ | ⟨-, rfl⟩ | ⟨-, rfl⟩ | ⟨-, rfl⟩ | ⟨-, rfl⟩ |
    ⟨-, rfl⟩ := State.writeReg_cases ht
  · unfold State.writeCtrl
    split
    · exact keeps.softReset _ high h
    · exact keeps.interrupt _ high h
  · have hidle : s.status.busy = false := by
      rw [← Bool.not_eq_true]; exact fun hb => absurd (idle hb) (by decide)
    unfold State.writeCmd
    split
    · next hd => exact keeps.issue _ _ (by simp [hd]) high h
    · exact keeps.reject _ high hidle h
  · exact keeps.acknowledge _ high h
  · exact keeps.configure _ s.payloadLen high h
  · exact keeps.configure s.config _ high h
  · exact keeps.operands _ s.opb s.rsCfg high h
  · exact keeps.operands s.opa _ s.rsCfg high h
  · exact keeps.operands s.opa s.opb _ high h

theorem HostKeeps.writeAccepted {s t : State} {a : Nat} {size : AccessSize} {w : Word}
    (h : P s) (ht : s.writeAccepted a size w = some t) : P t := by
  obtain ⟨high, good, idle, ⟨-, hw⟩ | ⟨hr, rfl⟩ | ⟨hr, rfl⟩⟩ := State.writeAccepted_cases ht
  · exact keeps.writeReg high idle h hw
  · exact keeps.rsdata _ good hr high h
  · exact keeps.payload _ good hr high h

theorem HostKeeps.hostEvent {s : State} (e : HostEvent) (h : P s) : P (s.hostEvent e) := by
  match e with
  | .idle => exact h
  | .access (.read a size) =>
    exact keeps.port (s := s) s.inbox (s.readAnswer a.toNat size :: s.outbox) (s.draws + 1) h
  | .access (.write a size w) =>
    simp only [State.hostEvent, State.perform]
    split
    · next t ht => exact keeps.port t.inbox _ t.draws (keeps.writeAccepted h ht)
    · exact keeps.port s.inbox _ s.draws h
  | .rstN true => exact keeps.rise h
  | .rstN false => exact keeps.fall h

/-- What each change keeps, the cycle keeps. -/
theorem HostKeeps.hostTurn {s : State} (h : P s) : P s.hostTurn := by
  cases hi : s.inbox with
  | nil => rw [State.hostTurn_nil hi]; exact keeps.tick h
  | cons e rest =>
    rw [State.hostTurn_cons hi]
    exact keeps.hostEvent e (keeps.port rest s.outbox s.draws (keeps.tick h))

end

/-! ## STATUS -/

theorem StatusInv.hostKeeps : HostKeeps StatusInv where
  port _ _ _ h := ⟨h.busy_valid, h.busy_done, h.busy_err, h.err_code, h.idle_wait, h.low_reset⟩
  tick {s} h := by
    refine ⟨h.busy_valid, h.busy_done, h.busy_err, h.err_code, fun hb => ?_, h.low_reset⟩
    have hb : s.status.busy = false := hb
    simp [State.tick, hb, h.idle_wait hb]
  fall h := ⟨nofun, nofun, nofun, ⟨nofun, fun hn => absurd rfl hn⟩, fun _ => rfl, fun _ => rfl⟩
  rise h := ⟨h.busy_valid, h.busy_done, h.busy_err, h.err_code, h.idle_wait, nofun⟩
  softReset _ high h := ⟨nofun, nofun, nofun, ⟨nofun, fun hn => absurd rfl hn⟩, fun _ => rfl, fun _ => rfl⟩
  interrupt _ _ h :=
    ⟨h.busy_valid, h.busy_done, h.busy_err, h.err_code, h.idle_wait, h.low_reset⟩
  issue k _ valid high h :=
    ⟨fun _ => valid, fun _ => rfl, fun _ => rfl, by simp, nofun,
      fun hl => by simp [high] at hl⟩
  reject w high idle h := by
    refine ⟨nofun, nofun, nofun, ?_, fun _ => h.idle_wait idle, fun hl => ?_⟩
    · simp [State.rejectCommand]
    · simp [State.rejectCommand, high] at hl
  acknowledge w high h :=
    ⟨h.busy_valid, fun hb => by simp [h.busy_done hb], h.busy_err, h.err_code, h.idle_wait,
      fun hl => by simp [high] at hl⟩
  configure _ _ high h :=
    ⟨h.busy_valid, h.busy_done, h.busy_err, h.err_code, h.idle_wait,
      fun hl => by simp [high] at hl⟩
  operands _ _ _ _ h :=
    ⟨h.busy_valid, h.busy_done, h.busy_err, h.err_code, h.idle_wait, h.low_reset⟩
  rsdata _ _ _ _ h :=
    ⟨h.busy_valid, h.busy_done, h.busy_err, h.err_code, h.idle_wait, h.low_reset⟩
  payload _ _ _ high h :=
    ⟨h.busy_valid, h.busy_done, h.busy_err, h.err_code, h.idle_wait,
      fun hl => by simp [high] at hl⟩

/-- A command that runs under a consistent STATUS leaves a consistent one (R410). -/
theorem StatusInv.exec {i : Instr} {s t : State} (h : StatusInv s) (turn : s.coreTurn = true)
    (ht : exec i s = .next t) : StatusInv t := by
  obtain ⟨high, busy, wait, -⟩ := (State.coreTurn_iff s).mp turn
  obtain ⟨hr, hw, hst⟩ := exec_control ht
  have hlow : t.rstN = false → t.status = State.reset.status := by simp [hr, high]
  obtain ⟨g, hg⟩ | ⟨e, g, he, hg⟩ := hst
  · refine ⟨?_, ?_, ?_, ?_, fun _ => hw.trans wait, hlow⟩ <;> simp [hg, h.err_code]
  · refine ⟨?_, ?_, ?_, ?_, fun _ => hw.trans wait, hlow⟩ <;> simp [hg, he]

/-- What a step does while STATUS is consistent: a valid command completes, or the host
acts; the word that is no command of log entry 15 is never in progress. -/
theorem StatusInv.step_cases {s t : State} (h : StatusInv s) (ht : step s = .next t) :
    (s.coreTurn = true ∧ ∃ i, Machine.exec i s = .next t) ∨ t = s.hostTurn := by
  obtain ⟨turn, i, -, hi⟩ | ⟨turn, hn, -⟩ | ⟨-, rfl⟩ := Machine.step_cases ht
  · exact .inl ⟨turn, i, hi⟩
  · have hv := h.busy_valid ((State.coreTurn_iff s).mp turn).2.1
    simp [hn] at hv
  · exact .inr rfl

theorem StatusInv.step {s t : State} (h : StatusInv s) (ht : Machine.step s = .next t) :
    StatusInv t := by
  obtain ⟨turn, i, hi⟩ | rfl := h.step_cases ht
  · exact h.exec turn hi
  · exact StatusInv.hostKeeps.hostTurn h

/-! ## Reset -/

/-- A change that needs a high rst_n keeps what holds only while rst_n is low. -/
theorem ResetInv.of_high {s : State} (high : s.rstN = true) : ResetInv s := by
  simp [ResetInv, high]

theorem ResetInv.hostKeeps : HostKeeps ResetInv where
  port inbox outbox draws h := fun low => by rw [h low]; rfl
  tick h := fun low => by rw [h low]; rfl
  fall _ := fun _ => rfl
  rise _ := .of_high rfl
  softReset _ high _ := .of_high high
  interrupt _ high _ := .of_high high
  issue _ _ _ high _ := .of_high high
  reject _ high _ _ := .of_high high
  acknowledge _ high _ := .of_high high
  configure _ _ high _ := .of_high high
  operands _ _ _ high _ := .of_high high
  rsdata _ _ _ high _ := .of_high high
  payload _ _ _ high _ := .of_high high

end Sys2Proof.Safety
end

section

open Sys2Proof.Safety

/-- Settles O56: the sequencer's cycle completes a valid command, and the host's cycle
is made of changes that each keep STATUS consistent. -/
theorem stepKeepsStatusInvariant : Obligations.StepKeepsStatusInvariant :=
  fun _ _ h ht => h.step ht

end

section
/-! SUPPORT. What the matrix phases do to a square grid, cell by cell: the writes of
`fset`, the placement of bits (46_matrix.md R322) and the mask (47_mask_checksum.md
R340). -/

namespace Sys2Proof.Machine

/-! ## Square grids -/

/-- A grid of n rows of n cells. -/
structure Grid.Square (n : Nat) (g : Grid) : Prop where
  rows : g.length = n
  cols : ∀ r < n, (g[r]?.getD []).length = n

/-- No function cell of the grid is without a colour. -/
def Grid.Proper (n : Nat) (g : Grid) : Prop :=
  ∀ r < n, ∀ c < n, (g.get r c).func = true → (g.get r c).state ≠ .unset

theorem Grid.Square.getElem? {n : Nat} {g : Grid} (h : g.Square n) {r c : Nat} (hr : r < n)
    (hc : c < n) : (g[r]?.getD [])[c]? = some (g.get r c) := by
  have hlen : c < (g[r]?.getD []).length := (h.cols r hr).symm ▸ hc
  rw [Grid.get_eq, List.getElem?_eq_getElem hlen, Option.getD_some]

theorem Grid.Square.row_length {n : Nat} {g : Grid} (h : g.Square n) {i : Nat} {row : List MCell}
    (hi : g[i]? = some row) : i < n ∧ row.length = n := by
  have hlt : i < n := h.rows ▸ (List.getElem?_eq_some_iff.mp hi).1
  exact ⟨hlt, by simpa [hi] using h.cols i hlt⟩

theorem Grid.Square.set {n : Nat} {g : Grid} (h : g.Square n) (r c : Nat) (x : MCell) :
    (g.set r c x).Square n :=
  ⟨by rw [Grid.set_length, h.rows], fun i hi => by
    simpa only [List.getD_eq_getElem?_getD, h.cols i hi] using g.set_rowLength r c i x⟩

/-- Within the square a write shows at its own cell and nowhere else. -/
theorem Grid.Square.get_set {n : Nat} {g : Grid} (h : g.Square n) {r c : Nat} (hr : r < n)
    (hc : c < n) (r' c' : Nat) (x : MCell) :
    (g.set r' c' x).get r c = if r = r' ∧ c = c' then x else g.get r c := by
  rw [Grid.get_set]
  by_cases heq : r = r' ∧ c = c'
  · obtain ⟨rfl, rfl⟩ := heq
    have hlen : c < (g.getD r []).length := by
      rwa [List.getD_eq_getElem?_getD, h.cols r hr]
    rw [if_pos ⟨rfl, rfl, h.rows.symm ▸ hr, hlen⟩, if_pos ⟨rfl, rfl⟩]
  · rw [if_neg heq, if_neg (fun hh => heq ⟨hh.1, hh.2.1⟩)]

theorem Grid.Square.blank (n : Nat) : (Grid.blank n).Square n where
  rows := by simp [Grid.blank]
  cols r hr := by simp [Grid.blank, hr]

@[simp] theorem Grid.get_blank (n r c : Nat) : (Grid.blank n).get r c = MCell.empty := by
  simp only [Grid.get_eq, Grid.blank, List.getElem?_replicate]
  split
  · simp only [Option.getD_some, List.getElem?_replicate]; split <;> rfl
  · rfl

theorem State.readGrid_square (s : State) (n : Nat) : (s.readGrid n).Square n where
  rows := s.readGrid_length n
  cols r hr := by simp [State.readGrid, hr]

/-! ## The writes of function modules -/

/-- The cell that a write of a function module leaves (46_matrix.md). -/
def FSet.cell (w : FSet) : MCell := { state := ModState.ofDark w.dark, func := true }

theorem FSet.cell_resolved (w : FSet) : w.cell.state ≠ .unset := by
  unfold FSet.cell ModState.ofDark
  split <;> decide

theorem Grid.Square.foldl_fset {n : Nat} {g : Grid} (h : g.Square n) (ws : List FSet) :
    (ws.foldl Grid.fset g).Square n := by
  induction ws generalizing g with
  | nil => exact h
  | cons w ws ih => exact ih (h.set _ _ _)

/-- After a list of writes a cell is as one of the writes to it left it, or as it was if
there is none. -/
theorem Grid.Square.get_foldl_fset {n : Nat} {g : Grid} (h : g.Square n) (ws : List FSet)
    {r c : Nat} (hr : r < n) (hc : c < n) :
    (∃ w ∈ ws, w.row = r ∧ w.col = c ∧ (ws.foldl Grid.fset g).get r c = w.cell) ∨
      ((∀ w ∈ ws, ¬ (w.row = r ∧ w.col = c)) ∧ (ws.foldl Grid.fset g).get r c = g.get r c) := by
  induction ws generalizing g with
  | nil => exact .inr ⟨by simp, rfl⟩
  | cons w ws ih =>
    have hset := h.get_set hr hc w.row w.col w.cell
    obtain ⟨w', hw', hrow, hcol, hget⟩ | ⟨hno, hget⟩ := ih (h.set w.row w.col w.cell)
    · exact .inl ⟨w', List.mem_cons_of_mem _ hw', hrow, hcol, hget⟩
    · by_cases hw : w.row = r ∧ w.col = c
      · exact .inl ⟨w, List.mem_cons_self, hw.1, hw.2,
          hget.trans (hset.trans (if_pos ⟨hw.1.symm, hw.2.symm⟩))⟩
      · refine .inr ⟨by simpa using ⟨not_and.mp hw, fun w' hw' => not_and.mp (hno w' hw')⟩, hget.trans (hset.trans (if_neg fun hh => ?_))⟩
        exact hw ⟨hh.1.symm, hh.2.symm⟩

/-! ## Placement -/

/-- What the placer leaves of a cell: an open cell among those visited takes a colour as
a data cell, and every other cell stays (R322). -/
theorem placeBits_get {n : Nat} (cells : List (Nat × Nat)) (bits : List Bool) {g : Grid}
    (k : Nat) (h : g.Square n) :
    (placeBits cells bits g k).1.Square n ∧ ∀ r < n, ∀ c < n,
      ((placeBits cells bits g k).1.get r c = g.get r c ∧
        ((r, c) ∈ cells → (g.get r c).isOpen = false)) ∨
      ((g.get r c).func = false ∧ ((placeBits cells bits g k).1.get r c).func = false ∧
        ((placeBits cells bits g k).1.get r c).state ≠ .unset) := by
  induction cells generalizing bits g k with
  | nil => exact ⟨h, fun r _ c _ => .inl ⟨rfl, by simp⟩⟩
  | cons p rest ih =>
    obtain ⟨r', c'⟩ := p
    by_cases hopen : (g.get r' c').isOpen = true
    · rw [placeBits, if_pos hopen]
      set x : MCell := { state := ModState.ofDark (bits.headD false), func := false } with hx
      have hres : x.state ≠ .unset := by rw [hx]; unfold ModState.ofDark; split <;> decide
      obtain ⟨hsq, hget⟩ := ih bits.tail (k + 1) (h.set r' c' x)
      refine ⟨hsq, fun r hr c hc => ?_⟩
      have hset := h.get_set hr hc r' c' x
      by_cases heq : r = r' ∧ c = c'
      · obtain ⟨rfl, rfl⟩ := heq
        have hfunc : (g.get r c).func = false := by
          simp only [MCell.isOpen, Bool.and_eq_true, Bool.not_eq_true'] at hopen
          exact hopen.1
        rw [if_pos ⟨rfl, rfl⟩] at hset
        obtain ⟨hsame, -⟩ | ⟨-, hdone⟩ := hget r hr c hc
        · exact .inr ⟨hfunc, by rw [hsame, hset], by rwa [hsame, hset]⟩
        · exact .inr ⟨hfunc, hdone⟩
      · have hne : (r, c) ≠ (r', c') := fun hh => heq ⟨congrArg Prod.fst hh, congrArg Prod.snd hh⟩
        rw [if_neg heq] at hset
        have hrest := hget r hr c hc
        rw [hset] at hrest
        simpa [hne] using hrest
    · rw [placeBits, if_neg hopen]
      obtain ⟨hsq, hget⟩ := ih bits k h
      refine ⟨hsq, fun r hr c hc => ?_⟩
      obtain ⟨hsame, hin⟩ | hdone := hget r hr c hc
      · refine .inl ⟨hsame, fun hm => ?_⟩
        rcases List.mem_cons.mp hm with heq | hm
        · cases heq; exact Bool.eq_false_iff.mpr hopen
        · exact hin hm
      · exact .inr hdone

/-! ## The visiting order -/

theorem mem_stripCells {n right r c : Nat} (upward : Bool) (hr : r < n)
    (hc : c = right ∨ c = right - 1) : (r, c) ∈ stripCells n right upward := by
  unfold stripCells
  rw [List.mem_flatMap]
  cases upward with
  | true =>
    refine ⟨n - 1 - r, List.mem_range.mpr (by omega), ?_⟩
    have : n - 1 - (n - 1 - r) = r := by omega
    rcases hc with rfl | rfl <;> simp [this]
  | false =>
    refine ⟨r, List.mem_range.mpr hr, ?_⟩
    rcases hc with rfl | rfl <;> simp

/-- From an even column 2·m on, the strips are the even columns down to 8, and 5, 3, 1
(R321). -/
theorem mem_stripRights {m fuel : Nat} (hm : 3 ≤ m) (hf : m ≤ fuel) {x : Nat}
    (hx : x = 1 ∨ x = 3 ∨ x = 5 ∨ (x % 2 = 0 ∧ 8 ≤ x ∧ x ≤ 2 * m)) :
    x ∈ stripRights fuel (2 * m) := by
  induction m, hm using Nat.le_induction generalizing fuel with
  | base =>
    obtain ⟨f, rfl⟩ : ∃ f, fuel = f + 3 := ⟨fuel - 3, by omega⟩
    have : x = 1 ∨ x = 3 ∨ x = 5 := by omega
    rcases this with rfl | rfl | rfl <;> simp [stripRights]
  | succ m hm ih =>
    obtain ⟨f, rfl⟩ : ∃ f, fuel = f + 1 := ⟨fuel - 1, by omega⟩
    have hstep : stripRights (f + 1) (2 * (m + 1)) = 2 * (m + 1) :: stripRights f (2 * m) := by
      rw [stripRights, if_neg (by omega), if_neg (by omega : ¬ 2 * (m + 1) = 6)]
      rfl
    rw [hstep, List.mem_cons]
    by_cases hlast : x = 2 * (m + 1)
    · exact .inl hlast
    · exact .inr (ih (by omega) (by omega))

/-- The placer visits every cell outside column 6 (R321). -/
theorem mem_placementOrder {v r c : Nat} (hr : r < sideOf v) (hc : c < sideOf v) (h6 : c ≠ 6) :
    (r, c) ∈ placementOrder (sideOf v) := by
  obtain ⟨right, hright, hcol⟩ : ∃ right, right ∈ stripRights (sideOf v) (sideOf v - 1) ∧
      (c = right ∨ c = right - 1) := by
    rw [show sideOf v - 1 = 2 * (2 * v + 8) by unfold sideOf; omega]
    have hmem := @mem_stripRights (2 * v + 8) (sideOf v) (by omega) (by unfold sideOf; omega)
    unfold sideOf at hc
    by_cases hstrip : c % 2 = (if c < 6 then 1 else 0)
    · refine ⟨c, hmem ?_, .inl rfl⟩
      split at hstrip <;> omega
    · refine ⟨c + 1, hmem ?_, .inr rfl⟩
      split at hstrip <;> omega
  obtain ⟨i, hi⟩ := List.getElem?_of_mem hright
  unfold placementOrder
  rw [List.mem_flatMap]
  refine ⟨(right, i), ?_, mem_stripCells _ hr hcol⟩
  rw [List.mem_zipIdx_iff_getElem?]
  exact hi

/-! ## Masking -/

theorem applyMask_square {n : Nat} {g : Grid} (h : g.Square n) (k : Nat) :
    (applyMask k g).Square n where
  rows := by simp [applyMask, h.rows]
  cols r hr := by
    have := h.cols r hr
    have hlt : r < g.length := h.rows ▸ hr
    simpa [applyMask, hlt] using this

/-- The mask works cell by cell (R342). -/
theorem applyMask_get {n : Nat} {g : Grid} (h : g.Square n) (k : Nat) {r c : Nat} (hr : r < n)
    (hc : c < n) : (applyMask k g).get r c = maskCell k r c (g.get r c) := by
  have hlt : r < g.length := h.rows ▸ hr
  have hlc : c < g[r].length := by
    have := h.cols r hr
    simp only [List.getElem?_eq_getElem hlt, Option.getD_some] at this
    omega
  simp [Grid.get_eq, applyMask, hlt, hlc]

theorem maskCell_func (k r c : Nat) (x : MCell) : (maskCell k r c x).func = x.func := by
  unfold maskCell
  split <;> simp_all

theorem maskCell_resolved (k r c : Nat) {x : MCell} (h : x.func = true → x.state ≠ .unset) :
    (maskCell k r c x).state ≠ .unset := by
  unfold maskCell
  split
  · next hf => exact h hf
  · unfold ModState.ofDark; split <;> simp

end Sys2Proof.Machine
end

section
/-! SUPPORT. The grid that the geometry phase builds write by write (46_matrix.md
R301-R308) is the one that Reference describes cell by cell. -/

namespace Sys2Proof.Reference

open Sys2Proof.Machine Sys2Proof.Safety

/-! ## The alignment coordinates -/

/-- Two coordinates of a row of R43 are equal or at least 12 apart. -/
theorem alignRom_apart {v : Nat} (h1 : 1 ≤ v) (h40 : v ≤ 40) {a b : Nat} (ha : a ∈ alignRom v)
    (hb : b ∈ alignRom v) : a = b ∨ a + 12 ≤ b ∨ b + 12 ≤ a := by
  have table : ∀ u < 41, 1 ≤ u → ∀ x ∈ alignRom u, ∀ y ∈ alignRom u,
      x = y ∨ x + 12 ≤ y ∨ y + 12 ≤ x := by decide +kernel
  exact table v (by omega) h1 a ha b hb

/-- A coordinate of a row of R43 is even, and it is 6, or 4·v + 10, or at least 12 away
from both. -/
theorem alignRom_range {v : Nat} (h1 : 1 ≤ v) (h40 : v ≤ 40) {a : Nat} (ha : a ∈ alignRom v) :
    a % 2 = 0 ∧ 2 ≤ v ∧ (a = 6 ∨ a = 4 * v + 10 ∨ (18 ≤ a ∧ a + 12 ≤ 4 * v + 10)) := by
  have table : ∀ u < 41, 1 ≤ u → ∀ x ∈ alignRom u,
      x % 2 = 0 ∧ 2 ≤ u ∧ (x = 6 ∨ x = 4 * u + 10 ∨ (18 ≤ x ∧ x + 12 ≤ 4 * u + 10)) := by
    decide +kernel
  exact table v (by omega) h1 a ha

theorem alignmentCover_some {v x a : Nat} (h : alignmentCover v x = some a) :
    a ∈ alignRom v ∧ natDist x a ≤ 2 :=
  ⟨List.mem_of_find?_eq_some h, by simpa using List.find?_some h⟩

/-- The coordinate within 2 of an offset is the one that covers it. -/
theorem alignmentCover_eq {v x a : Nat} (h1 : 1 ≤ v) (h40 : v ≤ 40) (ha : a ∈ alignRom v)
    (hx : natDist x a ≤ 2) : alignmentCover v x = some a := by
  cases hc : alignmentCover v x with
  | none =>
    have := List.find?_eq_none.mp hc a ha
    simp [hx] at this
  | some b =>
    obtain ⟨hb, hxb⟩ := alignmentCover_some hc
    have := alignRom_apart h1 h40 ha hb
    unfold natDist at hx hxb
    rw [show b = a by omega]

theorem alignmentCentre_iff {v a b : Nat} (ha : a ∈ alignRom v) (hb : b ∈ alignRom v) :
    alignmentCentre v a b = true ↔
      ¬ ((a = 6 ∧ b = 6) ∨ (a = 6 ∧ b = 4 * v + 10) ∨ (a = 4 * v + 10 ∧ b = 6)) := by
  simp [alignmentCentre, ha, hb]
  tauto

/-! ## The colours of the cells -/

/-- The corners that hold a finder pattern with its separator (R302, R303). -/
def inFinderZone (v r c : Nat) : Prop :=
  (r < 8 ∧ c < 8) ∨ (r < 8 ∧ 4 * v + 17 ≤ c + 8) ∨ (4 * v + 17 ≤ r + 8 ∧ c < 8)

/-- The colour of a cell outside the finder zones and the alignment patterns. -/
def lineColour (v r c : Nat) : Option Bool :=
  if r = 6 ∨ c = 6 then some ((r + c) % 2 == 0)
  else if r + 8 = 4 * v + 17 ∧ c = 8 then some true
  else if (r = 8 ∧ (c ≤ 8 ∨ 4 * v + 17 ≤ c + 8)) ∨ (c = 8 ∧ (r ≤ 8 ∨ 4 * v + 17 ≤ r + 8)) then
    some false
  else if 7 ≤ v ∧ ((r < 6 ∧ 4 * v + 17 ≤ c + 11) ∨ (4 * v + 17 ≤ r + 11 ∧ c < 6)) then
    some false
  else none

theorem geometryColour_topLeft {v r c : Nat} (hr : r < 8) (hc : c < 8) :
    geometryColour v r c = some (finderDark r c) := by
  simp [geometryColour, hr, hc]

theorem geometryColour_topRight {v r c : Nat} (hr : r < 8) (hc : 8 ≤ c)
    (hn : 4 * v + 17 ≤ c + 8) :
    geometryColour v r c = some (finderDark r (4 * v + 17 - 1 - c)) := by
  simp [geometryColour, hr, hn, show ¬ c < 8 by omega]

theorem geometryColour_bottomLeft {v r c : Nat} (hr : 8 ≤ r) (hn : 4 * v + 17 ≤ r + 8)
    (hc : c < 8) : geometryColour v r c = some (finderDark (4 * v + 17 - 1 - r) c) := by
  simp [geometryColour, hc, hn, show ¬ r < 8 by omega]

theorem geometryColour_aligned {v r c a b : Nat} (hz : ¬ inFinderZone v r c)
    (ha : alignmentCover v r = some a) (hb : alignmentCover v c = some b)
    (hab : alignmentCentre v a b = true) :
    geometryColour v r c = some (max (natDist r a) (natDist c b) != 1) := by
  unfold inFinderZone at hz
  unfold geometryColour
  rw [if_neg (by omega), if_neg (by omega), if_neg (by omega)]
  simp [ha, hb, hab]

theorem geometryColour_unaligned {v r c : Nat} (hz : ¬ inFinderZone v r c)
    (hno : ∀ a b, alignmentCover v r = some a → alignmentCover v c = some b →
      alignmentCentre v a b = false) :
    geometryColour v r c = lineColour v r c := by
  unfold inFinderZone at hz
  unfold geometryColour
  rw [if_neg (by omega), if_neg (by omega), if_neg (by omega)]
  cases ha : alignmentCover v r with
  | none => rfl
  | some a =>
    cases hb : alignmentCover v c with
    | none => rfl
    | some b => simp [hno a b ha hb, lineColour]

/-- A cell outside the finder zones lies in an alignment pattern or in none. -/
theorem aligned_or_unaligned (v r c : Nat) :
    (∃ a b, alignmentCover v r = some a ∧ alignmentCover v c = some b ∧
      alignmentCentre v a b = true) ∨
    ∀ a b, alignmentCover v r = some a → alignmentCover v c = some b →
      alignmentCentre v a b = false := by
  by_cases h : ∃ a b, alignmentCover v r = some a ∧ alignmentCover v c = some b ∧
      alignmentCentre v a b = true
  · exact .inl h
  · refine .inr fun a b ha hb => ?_
    rw [← Bool.not_eq_true]
    exact fun hab => h ⟨a, b, ha, hb, hab⟩

/-- No alignment pattern covers a cell with both coordinates nearer than 9 to the edges
at a finder. -/
theorem unaligned_near_finder {v r c : Nat} (h1 : 1 ≤ v) (h40 : v ≤ 40)
    (h : (r ≤ 8 ∧ c ≤ 8) ∨ (r ≤ 8 ∧ 4 * v + 6 ≤ c) ∨ (4 * v + 6 ≤ r ∧ c ≤ 8)) (a b : Nat)
    (ha : alignmentCover v r = some a) (hb : alignmentCover v c = some b) :
    alignmentCentre v a b = false := by
  obtain ⟨ha, hra⟩ := alignmentCover_some ha
  obtain ⟨hb, hcb⟩ := alignmentCover_some hb
  have hA := alignRom_range h1 h40 ha
  have hB := alignRom_range h1 h40 hb
  rw [← Bool.not_eq_true, alignmentCentre_iff ha hb, not_not]
  unfold natDist at hra hcb
  omega

/-! ## Every write of the phase has the cell's colour -/

theorem finderDark_flip_right {i j : Nat} (hj : j ≤ 6) : finderDark i (6 - j) = finderDark i j := by
  unfold finderDark
  rw [show natDist (6 - j) 3 = natDist j 3 by unfold natDist; omega]

theorem finderDark_flip_left {i j : Nat} (hi : i ≤ 6) : finderDark (6 - i) j = finderDark i j := by
  unfold finderDark
  rw [show natDist (6 - i) 3 = natDist i 3 by unfold natDist; omega]

theorem mem_finderAt {R C : Nat} {w : FSet} :
    w ∈ finderAt R C ↔ ∃ i < 7, ∃ j < 7, w = ⟨R + i, C + j, finderDark i j⟩ := by
  have pattern : ∀ i < 7, ∀ j < 7, (i == 0 || i == 6 || j == 0 || j == 6 ||
      (decide (2 ≤ i) && decide (i ≤ 4) && decide (2 ≤ j) && decide (j ≤ 4))) =
        finderDark i j := by decide
  simp only [finderAt, List.mem_flatMap, List.mem_map, List.mem_range]
  constructor
  · rintro ⟨i, hi, j, hj, rfl⟩
    exact ⟨i, hi, j, hj, by rw [← pattern i hi j hj]⟩
  · rintro ⟨i, hi, j, hj, rfl⟩
    exact ⟨i, hi, j, hj, by rw [← pattern i hi j hj]⟩

theorem mem_separators {n : Nat} {w : FSet} :
    w ∈ separators n ↔ w.dark = false ∧ ∃ i < 8,
      (w.row = 7 ∧ w.col = i) ∨ (w.row = i ∧ w.col = 7) ∨ (w.row = 7 ∧ w.col = n - 1 - i) ∨
      (w.row = i ∧ w.col = n - 8) ∨ (w.row = n - 8 ∧ w.col = i) ∨
      (w.row = n - 1 - i ∧ w.col = 7) := by
  obtain ⟨row, col, dark⟩ := w
  simp only [separators, List.mem_flatMap, List.mem_range, List.mem_cons, List.not_mem_nil,
    or_false, FSet.mk.injEq]
  constructor
  · rintro ⟨i, hi, h⟩; exact ⟨by tauto, i, hi, by tauto⟩
  · rintro ⟨rfl, i, hi, h⟩; exact ⟨i, hi, by tauto⟩

theorem mem_timing {n : Nat} {w : FSet} :
    w ∈ timing n ↔ ∃ k, 8 ≤ k ∧ k < n - 8 ∧ (w = ⟨6, k, k % 2 == 0⟩ ∨ w = ⟨k, 6, k % 2 == 0⟩) := by
  simp only [timing, List.mem_flatMap, List.mem_range'_1, List.mem_cons, List.not_mem_nil,
    or_false]
  constructor
  · rintro ⟨k, ⟨h1, h2⟩, h⟩; exact ⟨k, h1, by omega, h⟩
  · rintro ⟨k, h1, h2, h⟩; exact ⟨k, ⟨h1, by omega⟩, h⟩

theorem mem_alignments {v n : Nat} {w : FSet} :
    w ∈ alignments v n ↔ ∃ a ∈ alignRom v, ∃ b ∈ alignRom v, overlapsFinder n a b = false ∧
      ∃ i < 5, ∃ j < 5,
        w = ⟨a - 2 + i, b - 2 + j, max (natDist i 2) (natDist j 2) != 1⟩ := by
  simp only [alignments, List.mem_flatMap]
  constructor
  · rintro ⟨a, ha, b, hb, h⟩
    split at h
    · simp at h
    · next ho =>
      simp only [alignmentAt, List.mem_flatMap, List.mem_map, List.mem_range] at h
      obtain ⟨i, hi, j, hj, rfl⟩ := h
      exact ⟨a, ha, b, hb, by simpa using ho, i, hi, j, hj, rfl⟩
  · rintro ⟨a, ha, b, hb, ho, i, hi, j, hj, rfl⟩
    refine ⟨a, ha, b, hb, ?_⟩
    simp only [ho, Bool.false_eq_true, if_false, alignmentAt, List.mem_flatMap, List.mem_map,
      List.mem_range]
    exact ⟨i, hi, j, hj, rfl⟩

/-- The cells of the format information (R310). -/
def isFormatCell (n r c : Nat) : Prop :=
  (r = 8 ∧ c ≠ 6 ∧ (c ≤ 8 ∨ n ≤ c + 8) ∧ c < n) ∨
    (c = 8 ∧ r ≠ 6 ∧ (r ≤ 8 ∨ n < r + 8) ∧ r < n)

/-- The cells of the version information (R311). -/
def isVersionCell (n r c : Nat) : Prop :=
  (r < 6 ∧ n ≤ c + 11 ∧ c + 8 < n) ∨ (n ≤ r + 11 ∧ r + 8 < n ∧ c < 6)

theorem mem_formatCopy1 {r c : Nat} :
    (r, c) ∈ formatCopy1 ↔ (r = 8 ∧ c ≤ 8 ∧ c ≠ 6) ∨ (c = 8 ∧ r ≤ 7 ∧ r ≠ 6) := by
  simp only [formatCopy1, List.mem_cons, List.not_mem_nil, or_false, Prod.mk.injEq]
  omega

theorem mem_formatCopy2 {n r c : Nat} (hn : 21 ≤ n) :
    (r, c) ∈ formatCopy2 n ↔ (c = 8 ∧ n < r + 8 ∧ r < n) ∨ (r = 8 ∧ n ≤ c + 8 ∧ c < n) := by
  have split : formatCopy2 n = (List.range 7).map (fun i => (n - (i + 1), 8)) ++
      (List.range 8).map (fun i => (8, n - (8 - i))) := rfl
  simp only [split, List.mem_append, List.mem_map, List.mem_range, Prod.mk.injEq]
  constructor
  · rintro (⟨i, hi, h⟩ | ⟨i, hi, h⟩) <;> omega
  · rintro (h | h)
    · exact .inl ⟨n - 1 - r, by omega, by omega, by omega⟩
    · exact .inr ⟨8 - (n - c), by omega, by omega, by omega⟩

theorem mem_formatCells {n r c : Nat} (hn : 21 ≤ n) :
    (r, c) ∈ formatCopy1 ++ formatCopy2 n ↔ isFormatCell n r c := by
  rw [List.mem_append, mem_formatCopy1, mem_formatCopy2 hn]
  unfold isFormatCell
  omega

/-- The format bits are zipped with one cell each, in both copies. -/
theorem mem_zip_formatCells {n : Nat} {p : Nat × Nat} :
    p ∈ formatCopy1 ++ formatCopy2 n ↔
      ∃ x ∈ formatBitOrder.zip formatCopy1 ++ formatBitOrder.zip (formatCopy2 n), x.2 = p := by
  have h1 : (formatBitOrder.zip formatCopy1).map Prod.snd = formatCopy1 :=
    List.map_snd_zip (Nat.le_refl 15)
  have h2 : (formatBitOrder.zip (formatCopy2 n)).map Prod.snd = formatCopy2 n :=
    List.map_snd_zip (Nat.le_refl 15)
  rw [← List.mem_map (f := Prod.snd), List.map_append, h1, h2]

theorem mem_formatWrites {n fmt : Nat} {w : FSet} (hn : 21 ≤ n) (h : w ∈ formatWrites n fmt) :
    isFormatCell n w.row w.col ∧ (fmt = 0 → w.dark = false) := by
  obtain ⟨x, hx, rfl⟩ := List.mem_map.mp h
  exact ⟨(mem_formatCells hn).mp (mem_zip_formatCells.mpr ⟨x, hx, rfl⟩), by rintro rfl; simp⟩

theorem exists_mem_formatWrites {n r c : Nat} (fmt : Nat) (hn : 21 ≤ n)
    (h : isFormatCell n r c) : ∃ w ∈ formatWrites n fmt, w.row = r ∧ w.col = c := by
  obtain ⟨x, hx, hrc⟩ := mem_zip_formatCells.mp ((mem_formatCells hn).mpr h)
  exact ⟨_, List.mem_map.mpr ⟨x, hx, rfl⟩, congrArg Prod.fst hrc, congrArg Prod.snd hrc⟩

theorem mem_versionWrites {n ver : Nat} {w : FSet} (hn : 45 ≤ n) (h : w ∈ versionWrites n ver) :
    isVersionCell n w.row w.col ∧ (ver = 0 → w.dark = false) := by
  simp only [versionWrites, List.mem_flatMap, List.mem_range, List.mem_cons, List.not_mem_nil,
    or_false] at h
  obtain ⟨i, hi, rfl | rfl⟩ := h <;> unfold isVersionCell <;> dsimp only <;>
    exact ⟨by omega, by rintro rfl; simp⟩

theorem exists_mem_versionWrites {n r c : Nat} (ver : Nat) (hn : 45 ≤ n)
    (h : isVersionCell n r c) : ∃ w ∈ versionWrites n ver, w.row = r ∧ w.col = c := by
  simp only [versionWrites, List.mem_flatMap, List.mem_range, List.mem_cons, List.not_mem_nil,
    or_false]
  rcases h with h | h
  · exact ⟨_, ⟨3 * r + (c - (n - 11)), by omega, .inl rfl⟩, by dsimp only; omega,
      by dsimp only; omega⟩
  · exact ⟨_, ⟨3 * c + (r - (n - 11)), by omega, .inr rfl⟩, by dsimp only; omega,
      by dsimp only; omega⟩

theorem mem_geometryWrites {v : Nat} {w : FSet} :
    w ∈ geometryWrites v ↔ w ∈ finders (4 * v + 17) ∨ w ∈ separators (4 * v + 17) ∨
      w ∈ timing (4 * v + 17) ∨ w ∈ alignments v (4 * v + 17) ∨ w = ⟨4 * v + 9, 8, true⟩ ∨
      w ∈ formatWrites (4 * v + 17) 0 ∨ (7 ≤ v ∧ w ∈ versionWrites (4 * v + 17) 0) := by
  have hver : w ∈ (if 7 ≤ v then versionWrites (4 * v + 17) 0 else []) ↔
      7 ≤ v ∧ w ∈ versionWrites (4 * v + 17) 0 := by
    split <;> simp_all
  simp only [geometryWrites, sideOf, darkModule, List.mem_append, hver, List.mem_singleton,
    or_assoc]

section
variable {v : Nat} (h1 : 1 ≤ v) (h40 : v ≤ 40)
include h1 h40

theorem geometryColour_of_mem_finders {w : FSet} (h : w ∈ finders (4 * v + 17)) :
    geometryColour v w.row w.col = some w.dark := by
  simp only [finders, List.mem_append, mem_finderAt] at h
  obtain (⟨i, hi, j, hj, rfl⟩ | ⟨i, hi, j, hj, rfl⟩) | ⟨i, hi, j, hj, rfl⟩ := h
  · rw [geometryColour_topLeft] <;> simp <;> omega
  · have hcol : 4 * v + 17 - 1 - (4 * v + 17 - 7 + j) = 6 - j := by omega
    rw [geometryColour_topRight (by dsimp only; omega) (by dsimp only; omega)
      (by dsimp only; omega)]
    simp only [hcol, Nat.zero_add, finderDark_flip_right (show j ≤ 6 by omega)]
  · have hrow : 4 * v + 17 - 1 - (4 * v + 17 - 7 + i) = 6 - i := by omega
    rw [geometryColour_bottomLeft (by dsimp only; omega) (by dsimp only; omega)
      (by dsimp only; omega)]
    simp only [hrow, Nat.zero_add, finderDark_flip_left (show i ≤ 6 by omega)]

theorem geometryColour_of_mem_separators {w : FSet} (h : w ∈ separators (4 * v + 17)) :
    geometryColour v w.row w.col = some w.dark := by
  have ring : ∀ i < 8, finderDark 7 i = false ∧ finderDark i 7 = false := by decide
  obtain ⟨hd, i, hi, h⟩ := mem_separators.mp h
  rw [hd]
  rcases h with ⟨hr, hc⟩ | ⟨hr, hc⟩ | ⟨hr, hc⟩ | ⟨hr, hc⟩ | ⟨hr, hc⟩ | ⟨hr, hc⟩ <;> rw [hr, hc]
  · rw [geometryColour_topLeft (by omega) hi, (ring i hi).1]
  · rw [geometryColour_topLeft hi (by omega), (ring i hi).2]
  · rw [geometryColour_topRight (by omega) (by omega) (by omega),
      show 4 * v + 17 - 1 - (4 * v + 17 - 1 - i) = i by omega, (ring i hi).1]
  · rw [geometryColour_topRight hi (by omega) (by omega),
      show 4 * v + 17 - 1 - (4 * v + 17 - 8) = 7 by omega, (ring i hi).2]
  · rw [geometryColour_bottomLeft (by omega) (by omega) hi,
      show 4 * v + 17 - 1 - (4 * v + 17 - 8) = 7 by omega, (ring i hi).1]
  · rw [geometryColour_bottomLeft (by omega) (by omega) (by omega),
      show 4 * v + 17 - 1 - (4 * v + 17 - 1 - i) = i by omega, (ring i hi).2]

/-- The timing patterns keep their colours where alignment patterns cross them (R304,
R305). -/
theorem geometryColour_timing {r c : Nat} (hz : ¬ inFinderZone v r c) (h6 : r = 6 ∨ c = 6) :
    geometryColour v r c = some ((r + c) % 2 == 0) := by
  obtain ⟨a, b, ha, hb, hab⟩ | hno := aligned_or_unaligned v r c
  · rw [geometryColour_aligned hz ha hb hab]
    obtain ⟨ha, hra⟩ := alignmentCover_some ha
    obtain ⟨hb, hcb⟩ := alignmentCover_some hb
    have hA := alignRom_range h1 h40 ha
    have hB := alignRom_range h1 h40 hb
    unfold natDist at *
    rw [Option.some.injEq, Bool.eq_iff_iff, bne_iff_ne, beq_iff_eq]
    omega
  · rw [geometryColour_unaligned hz hno, lineColour, if_pos h6]

theorem geometryColour_of_mem_timing {w : FSet} (h : w ∈ timing (4 * v + 17)) :
    geometryColour v w.row w.col = some w.dark := by
  obtain ⟨k, hk, hk', rfl | rfl⟩ := mem_timing.mp h <;> dsimp only
  · rw [geometryColour_timing h1 h40 (by unfold inFinderZone; omega) (.inl rfl),
      show (6 + k) % 2 = k % 2 by omega]
  · rw [geometryColour_timing h1 h40 (by unfold inFinderZone; omega) (.inr rfl),
      show (k + 6) % 2 = k % 2 by omega]

theorem geometryColour_of_mem_alignments {w : FSet} (h : w ∈ alignments v (4 * v + 17)) :
    geometryColour v w.row w.col = some w.dark := by
  obtain ⟨a, ha, b, hb, ho, i, hi, j, hj, rfl⟩ := mem_alignments.mp h
  have hA := alignRom_range h1 h40 ha
  have hB := alignRom_range h1 h40 hb
  have hra : natDist (a - 2 + i) a = natDist i 2 := by unfold natDist; omega
  have hcb : natDist (b - 2 + j) b = natDist j 2 := by unfold natDist; omega
  have hi2 : natDist i 2 ≤ 2 := by unfold natDist; omega
  have hj2 : natDist j 2 ≤ 2 := by unfold natDist; omega
  simp only [overlapsFinder, Bool.or_eq_false_iff, Bool.and_eq_false_iff,
    decide_eq_false_iff_not] at ho
  rw [geometryColour_aligned (a := a) (b := b) (by unfold inFinderZone; dsimp only; omega)
    (alignmentCover_eq h1 h40 ha (by rw [hra]; exact hi2))
    (alignmentCover_eq h1 h40 hb (by rw [hcb]; exact hj2))
    ((alignmentCentre_iff ha hb).mpr (by omega))]
  simp only [hra, hcb]

theorem geometryColour_darkModule : geometryColour v (4 * v + 9) 8 = some true := by
  rw [geometryColour_unaligned (by unfold inFinderZone; omega)
    (unaligned_near_finder h1 h40 (by omega)), lineColour, if_neg (by omega), if_pos (by omega)]

theorem geometryColour_format {r c : Nat} (h : isFormatCell (4 * v + 17) r c) :
    geometryColour v r c = some false := by
  unfold isFormatCell at h
  rw [geometryColour_unaligned (by unfold inFinderZone; omega)
    (unaligned_near_finder h1 h40 (by omega)), lineColour, if_neg (by omega), if_neg (by omega),
    if_pos (by omega)]

theorem geometryColour_version {r c : Nat} (h7 : 7 ≤ v) (h : isVersionCell (4 * v + 17) r c) :
    geometryColour v r c = some false := by
  unfold isVersionCell at h
  rw [geometryColour_unaligned (by unfold inFinderZone; omega)
    (unaligned_near_finder h1 h40 (by omega)), lineColour, if_neg (by omega), if_neg (by omega),
    if_neg (by omega), if_pos (by omega)]

/-- Every write of the geometry phase has the colour of its cell. -/
theorem geometryColour_of_mem {w : FSet} (h : w ∈ geometryWrites v) :
    geometryColour v w.row w.col = some w.dark := by
  obtain h | h | h | h | rfl | h | ⟨h7, h⟩ := mem_geometryWrites.mp h
  · exact geometryColour_of_mem_finders h1 h40 h
  · exact geometryColour_of_mem_separators h1 h40 h
  · exact geometryColour_of_mem_timing h1 h40 h
  · exact geometryColour_of_mem_alignments h1 h40 h
  · exact geometryColour_darkModule h1 h40
  · obtain ⟨hcell, hdark⟩ := mem_formatWrites (by omega) h
    rw [hdark rfl, geometryColour_format h1 h40 hcell]
  · obtain ⟨hcell, hdark⟩ := mem_versionWrites (by omega) h
    rw [hdark rfl, geometryColour_version h1 h40 h7 hcell]

/-! ## Every coloured cell is written -/

/-- The finder zones are filled by the finder patterns and their separators. -/
theorem exists_mem_of_inFinderZone {r c : Nat} (hr : r < 4 * v + 17) (hc : c < 4 * v + 17)
    (hz : inFinderZone v r c) :
    ∃ w, (w ∈ finders (4 * v + 17) ∨ w ∈ separators (4 * v + 17)) ∧ w.row = r ∧ w.col = c := by
  have finder : ∀ R C, (R, C) ∈ [(0, 0), (0, 4 * v + 10), (4 * v + 10, 0)] → R ≤ r → r < R + 7 →
      C ≤ c → c < C + 7 → ∃ w ∈ finders (4 * v + 17), w.row = r ∧ w.col = c := by
    intro R C hm hR hR' hC hC'
    refine ⟨⟨r, c, finderDark (r - R) (c - C)⟩, ?_, rfl, rfl⟩
    have hw : ⟨r, c, finderDark (r - R) (c - C)⟩ ∈ finderAt R C := mem_finderAt.mpr
      ⟨r - R, by omega, c - C, by omega, by rw [Nat.add_sub_cancel' hR, Nat.add_sub_cancel' hC]⟩
    simp only [List.mem_cons, List.not_mem_nil, or_false, Prod.mk.injEq] at hm
    simp only [finders, List.mem_append, show 4 * v + 17 - 7 = 4 * v + 10 by omega]
    obtain ⟨rfl, rfl⟩ | ⟨rfl, rfl⟩ | ⟨rfl, rfl⟩ := hm
    · exact .inl (.inl hw)
    · exact .inl (.inr hw)
    · exact .inr hw
  have separator : ∀ i < 8, (r = 7 ∧ c = i) ∨ (r = i ∧ c = 7) ∨ (r = 7 ∧ c = 4 * v + 17 - 1 - i) ∨
      (r = i ∧ c = 4 * v + 17 - 8) ∨ (r = 4 * v + 17 - 8 ∧ c = i) ∨
      (r = 4 * v + 17 - 1 - i ∧ c = 7) →
      ∃ w ∈ separators (4 * v + 17), w.row = r ∧ w.col = c :=
    fun i hi h => ⟨⟨r, c, false⟩, mem_separators.mpr ⟨rfl, i, hi, h⟩, rfl, rfl⟩
  suffices h : (∃ w ∈ finders (4 * v + 17), w.row = r ∧ w.col = c) ∨
      ∃ w ∈ separators (4 * v + 17), w.row = r ∧ w.col = c by
    obtain ⟨w, hw, hrc⟩ | ⟨w, hw, hrc⟩ := h
    · exact ⟨w, .inl hw, hrc⟩
    · exact ⟨w, .inr hw, hrc⟩
  obtain ⟨hr8, hc8⟩ | ⟨hr8, hc8⟩ | ⟨hr8, hc8⟩ := hz
  · by_cases h7 : r = 7
    · exact .inr (separator c hc8 (by omega))
    by_cases h7' : c = 7
    · exact .inr (separator r hr8 (by omega))
    · exact .inl (finder 0 0 (by simp) (by omega) (by omega) (by omega) (by omega))
  · by_cases h7 : r = 7
    · exact .inr (separator (4 * v + 16 - c) (by omega) (by omega))
    by_cases h7' : c = 4 * v + 9
    · exact .inr (separator r hr8 (by omega))
    · exact .inl (finder 0 (4 * v + 10) (by simp) (by omega) (by omega) (by omega) (by omega))
  · by_cases h7 : c = 7
    · exact .inr (separator (4 * v + 16 - r) (by omega) (by omega))
    by_cases h7' : r = 4 * v + 9
    · exact .inr (separator c hc8 (by omega))
    · exact .inl (finder (4 * v + 10) 0 (by simp) (by omega) (by omega) (by omega) (by omega))

/-- A cell that an alignment pattern covers is written by it. -/
theorem exists_mem_alignments {r c a b : Nat} (ha : alignmentCover v r = some a)
    (hb : alignmentCover v c = some b) (hab : alignmentCentre v a b = true) :
    ∃ w ∈ alignments v (4 * v + 17), w.row = r ∧ w.col = c := by
  obtain ⟨ha, hra⟩ := alignmentCover_some ha
  obtain ⟨hb, hcb⟩ := alignmentCover_some hb
  have hA := alignRom_range h1 h40 ha
  have hB := alignRom_range h1 h40 hb
  have hcentre := (alignmentCentre_iff ha hb).mp hab
  unfold natDist at hra hcb
  refine ⟨_, mem_alignments.mpr ⟨a, ha, b, hb, ?_, r + 2 - a, by omega, c + 2 - b, by omega, rfl⟩,
    by dsimp only; omega, by dsimp only; omega⟩
  simp only [overlapsFinder, Bool.or_eq_false_iff, Bool.and_eq_false_iff,
    decide_eq_false_iff_not]
  omega

/-- Outside the finder zones and the alignment patterns, the timing patterns, the dark
module and the reserved cells are written. -/
theorem exists_mem_of_lineColour {r c : Nat} (hr : r < 4 * v + 17) (hc : c < 4 * v + 17)
    (hz : ¬ inFinderZone v r c) (h : (lineColour v r c).isSome) :
    ∃ w ∈ geometryWrites v, w.row = r ∧ w.col = c := by
  simp only [mem_geometryWrites]
  unfold inFinderZone at hz
  unfold lineColour at h
  split at h
  · next h6 =>
    obtain rfl | rfl := h6
    · exact ⟨⟨6, c, _⟩, .inr (.inr (.inl (mem_timing.mpr ⟨c, by omega, by omega, .inl rfl⟩))),
        rfl, rfl⟩
    · exact ⟨⟨r, 6, _⟩, .inr (.inr (.inl (mem_timing.mpr ⟨r, by omega, by omega, .inr rfl⟩))),
        rfl, rfl⟩
  split at h
  · exact ⟨_, .inr (.inr (.inr (.inr (.inl rfl)))), by dsimp only; omega, by dsimp only; omega⟩
  split at h
  · have hcell : isFormatCell (4 * v + 17) r c := by unfold isFormatCell; omega
    obtain ⟨w, hw, hrc⟩ := exists_mem_formatWrites 0 (by omega) hcell
    exact ⟨w, .inr (.inr (.inr (.inr (.inr (.inl hw))))), hrc⟩
  split at h
  · next h7 =>
    have hcell : isVersionCell (4 * v + 17) r c := by unfold isVersionCell; omega
    obtain ⟨w, hw, hrc⟩ := exists_mem_versionWrites 0 (by omega) hcell
    exact ⟨w, .inr (.inr (.inr (.inr (.inr (.inr ⟨h7.1, hw⟩))))), hrc⟩
  · simp at h

theorem exists_mem_geometryWrites {r c : Nat} (hr : r < 4 * v + 17) (hc : c < 4 * v + 17)
    (h : (geometryColour v r c).isSome) : ∃ w ∈ geometryWrites v, w.row = r ∧ w.col = c := by
  by_cases hz : inFinderZone v r c
  · obtain ⟨w, hw | hw, hrc⟩ := exists_mem_of_inFinderZone h1 h40 hr hc hz
    · exact ⟨w, mem_geometryWrites.mpr (.inl hw), hrc⟩
    · exact ⟨w, mem_geometryWrites.mpr (.inr (.inl hw)), hrc⟩
  obtain ⟨a, b, ha, hb, hab⟩ | hno := aligned_or_unaligned v r c
  · obtain ⟨w, hw, hrc⟩ := exists_mem_alignments h1 h40 ha hb hab
    exact ⟨w, mem_geometryWrites.mpr (.inr (.inr (.inr (.inl hw)))), hrc⟩
  · rw [geometryColour_unaligned hz hno] at h
    exact exists_mem_of_lineColour h1 h40 hr hc hz h

/-- The geometry phase builds the grid of Reference (R301-R308). -/
theorem geometryGrid_get {r c : Nat} (hr : r < sideOf v) (hc : c < sideOf v) :
    (geometryGrid v).get r c = geometryCell v r c := by
  obtain ⟨w, hw, rfl, rfl, hget⟩ | ⟨hno, hget⟩ :=
    (Grid.Square.blank (sideOf v)).get_foldl_fset (geometryWrites v) hr hc
  · rw [geometryGrid, hget, geometryCell, geometryColour_of_mem h1 h40 hw]
    cases hd : w.dark <;> simp [FSet.cell, ModState.ofDark, hd]
  · have hnone : geometryColour v r c = none := by
      rw [← Option.not_isSome_iff_eq_none]
      intro hsome
      obtain ⟨w, hw, hrc⟩ := exists_mem_geometryWrites h1 h40 hr hc hsome
      exact hno w hw hrc
    rw [geometryGrid, hget, geometryCell, hnone, Grid.get_blank]
    rfl

end

theorem geometryGrid_square (v : Nat) : (geometryGrid v).Square (sideOf v) :=
  (Grid.Square.blank _).foldl_fset _

theorem geometryCell_func (v r c : Nat) :
    (geometryCell v r c).func = (geometryColour v r c).isSome := by
  unfold geometryCell
  split <;> simp_all

theorem geometryCell_proper {v r c : Nat} (h : (geometryCell v r c).func = true) :
    (geometryCell v r c).state ≠ .unset := by
  unfold geometryCell at h ⊢
  split <;> simp_all

/-- Column 6 holds function modules only, so the placer may leave it out (R321). -/
theorem geometryColour_column6 {v r : Nat} (h1 : 1 ≤ v) (h40 : v ≤ 40) :
    (geometryColour v r 6).isSome := by
  by_cases hz : inFinderZone v r 6
  · obtain ⟨hr, hc⟩ | ⟨hr, hc⟩ | ⟨hr, hc⟩ := hz
    · rw [geometryColour_topLeft hr hc]; rfl
    · omega
    · rw [geometryColour_bottomLeft (by omega) hr hc]; rfl
  · rw [geometryColour_timing h1 h40 hz (.inr rfl)]; rfl

end Sys2Proof.Reference
end

section
/-! SUPPORT. What stores do to the entries of memory, and the invariants of the memory
and of the matrix (10_state.md R50, R53). -/

namespace Sys2Proof.Machine

/-! ## Entries after a store -/

/-- An entry of stored bytes holds the byte of its offset. -/
theorem Memory.entries_value {base : Nat} {bytes : List Byte} {c : Host.Cell}
    (h : c ∈ Memory.entries base bytes) : bytes[c.1 - base]? = some c.2 := by
  induction bytes generalizing base with
  | nil => simp [Memory.entries] at h
  | cons b bs ih =>
    have later : c ∈ Memory.entries (base + 1) bs → (b :: bs)[c.1 - base]? = some c.2 := by
      intro h
      have := (Memory.mem_entries h).1
      rw [show c.1 - base = c.1 - (base + 1) + 1 by omega, List.getElem?_cons_succ, ih h]
    rw [Memory.entries] at h
    split at h
    · exact later h
    · rcases List.mem_cons.mp h with rfl | h
      · simp
      · exact later h

/-- An entry after a store is an old one, or holds a stored byte. -/
theorem Memory.mem_store_value {m : Memory} {base : Nat} {bytes : List Byte} {c : Host.Cell}
    (h : c ∈ Memory.store m base bytes) :
    c ∈ m ∨ ∃ i b, bytes[i]? = some b ∧ c = (base + i, b) := by
  simp only [Memory.store, List.mem_append, List.mem_filter] at h
  obtain (⟨h, -⟩ | h) | ⟨h, -⟩ := h
  · exact .inl h
  · have := (Memory.mem_entries h).1
    refine .inr ⟨c.1 - base, c.2, Memory.entries_value h, ?_⟩
    rw [Nat.add_sub_cancel' this]
  · exact .inl h

/-- An entry after a grid is stored is an old one, or the byte of a cell in its slot. -/
theorem Memory.mem_storeRows {m : Memory} {r : Nat} {g : Grid} {c : Host.Cell}
    (h : c ∈ Memory.storeRows m r g) :
    c ∈ m ∨ ∃ i j x, (g[i]?.getD [])[j]? = some x ∧ c = (slotOffset (r + i) j, x.toByte) := by
  induction g generalizing m r with
  | nil => exact .inl h
  | cons row rows ih =>
    obtain h | ⟨i, j, x, hx, rfl⟩ := ih h
    · obtain h | ⟨j, b, hb, rfl⟩ := Memory.mem_store_value h
      · exact .inl h
      · obtain ⟨x, hx, rfl⟩ := Option.map_eq_some_iff.mp ((List.getElem?_map ..).symm.trans hb)
        exact .inr ⟨0, j, x, by simpa using hx, by simp [slotOffset]⟩
    · exact .inr ⟨i + 1, j, x, by simpa using hx, by rw [show r + (i + 1) = r + 1 + i by omega]⟩

theorem Grid.Square.mem_storeRows {n : Nat} {g : Grid} (hg : g.Square n) {m : Memory}
    {c : Host.Cell} (h : c ∈ Memory.storeRows m 0 g) :
    c ∈ m ∨ ∃ i < n, ∃ j < n, c = (0x10000 + 256 * i + j, (g.get i j).toByte) := by
  obtain h | ⟨i, j, x, hx, rfl⟩ := Memory.mem_storeRows h
  · exact .inl h
  · have hi : i < n := by
      by_contra hi
      have : g[i]? = none := List.getElem?_eq_none (by rw [hg.rows]; omega)
      simp [this] at hx
    have hj : j < n := hg.cols i hi ▸ (List.getElem?_eq_some_iff.mp hx).1
    rw [hg.getElem? hi hj, Option.some.injEq] at hx
    exact .inr ⟨i, hi, j, hj, by rw [hx, Nat.zero_add]; rfl⟩

/-! ## Memories that agree on a range of offsets -/

/-- Two memories hold the same content at the offsets from `lo` up to `hi`. -/
def Memory.Agree (lo hi : Nat) (m m' : Memory) : Prop :=
  ∀ a, lo ≤ a → a < hi → Memory.get? m' a = Memory.get? m a

theorem Memory.Agree.refl (lo hi : Nat) (m : Memory) : Memory.Agree lo hi m m := fun _ _ _ => rfl

theorem Memory.Agree.store {lo hi base : Nat} {bytes : List Byte} (m : Memory)
    (h : hi ≤ base ∨ base + bytes.length ≤ lo) :
    Memory.Agree lo hi m (Memory.store m base bytes) :=
  fun _ _ _ => Memory.get?_store_outside (by omega)

theorem Memory.Agree.clearMatrix {lo hi : Nat} (m : Memory) (h : hi ≤ 0x10000) :
    Memory.Agree lo hi m (Memory.clearMatrix m) := fun a _ ha => by
  rw [Memory.get?_clearMatrix, if_neg]
  simp only [Region.holds_iff, Region.base, not_and]
  omega

theorem Memory.Agree.storeRows {lo hi : Nat} (m : Memory) (g : Grid) (h : hi ≤ 0x10000) :
    Memory.Agree lo hi m (Memory.storeRows m 0 g) := fun a _ ha =>
  Memory.get?_storeRows_outside fun i row _ => by
    simp only [slotOffset, Region.base]
    omega

theorem Memory.Agree.trans {lo hi : Nat} {m m' m'' : Memory} (h : Memory.Agree lo hi m m')
    (h' : Memory.Agree lo hi m' m'') : Memory.Agree lo hi m m'' :=
  fun a h1 h2 => (h' a h1 h2).trans (h a h1 h2)

theorem Memory.Agree.mono {lo hi lo' hi' : Nat} {m m' : Memory} (h : Memory.Agree lo hi m m')
    (hlo : lo ≤ lo') (hhi : hi' ≤ hi) : Memory.Agree lo' hi' m m' :=
  fun a h1 h2 => h a (by omega) (by omega)

/-! ## The matrix window -/

theorem Memory.unlisted_matrix {a : Nat} (h : 0x10000 ≤ a) (h' : a < 0x20000) :
    Memory.unlisted a = some 0 := by
  rw [Memory.unlisted, if_pos]
  simp only [Region.holds_iff, Region.base, Region.size, Config.matrixStride]
  omega

/-- A slot always has a content, so its read draws nothing (R301). -/
theorem Memory.read_matrix (m : Memory) (draw : Nat) {a : Nat} (h : 0x10000 ≤ a)
    (h' : a < 0x20000) : Memory.read m draw a = (Memory.get? m a).getD 0 := by
  rw [Memory.read_eq, Memory.get?_eq, Memory.unlisted_matrix h h']
  cases Memory.entry? m a <;> rfl

/-- The bytes of cells that are no function cells without a colour (R53). -/
theorem MCell.toByte_cases {x : MCell} (h : x.func = true → x.state ≠ .unset) :
    x.toByte = 0 ∨ x.toByte = 2 ∨ x.toByte = 3 ∨ x.toByte = 6 ∨ x.toByte = 7 := by
  obtain ⟨st, fn⟩ := x
  revert h
  cases st <;> cases fn <;> decide

/-- The cells of the bytes of the table of R53. -/
theorem MCell.ofByte_proper {b : Byte} (h : b = 0 ∨ b = 2 ∨ b = 3 ∨ b = 6 ∨ b = 7) :
    (MCell.ofByte b).func = true → (MCell.ofByte b).state ≠ .unset := by
  rcases h with rfl | rfl | rfl | rfl | rfl <;> decide

/-- An aligned access does not leave the region of its offset (R102, R113). -/
theorem aligned_within {a : Nat} {size : AccessSize} {g : Region} (good : badForm a size = false)
    (h : regionOf a = some g) : g.base ≤ a ∧ a + size.bytes ≤ g.base + g.size := by
  obtain ⟨haligned, -⟩ := (badForm_eq_false_iff a size).mp good
  obtain ⟨hlo, hhi⟩ := (regionOf_eq_some_iff a g).mp h
  have hwords : g.base % 4 = 0 ∧ g.size % 4 = 0 := by cases g <;> decide
  refine ⟨hlo, ?_⟩
  cases size <;> simp only [AccessSize.bytes] at haligned ⊢ <;> omega

theorem rsdataWrite_within {a : Nat} {size : AccessSize} (w : Word)
    (good : badForm a size = false) (h : regionOf a = some .rsdata) :
    0x01000 ≤ a ∧ a + (writeBytes size w).length ≤ 0x01100 := by
  rw [writeBytes_length]
  exact aligned_within good h

theorem payloadWrite_within {a : Nat} {size : AccessSize} (w : Word)
    (good : badForm a size = false) (h : regionOf a = some .payload) :
    0x02000 ≤ a ∧ a + (writeBytes size w).length ≤ 0x04000 := by
  rw [writeBytes_length]
  exact aligned_within good h

theorem sideOf_le {v : Nat} (h : v ≤ 40) : sideOf v ≤ 177 := by
  unfold sideOf
  omega

end Sys2Proof.Machine

namespace Sys2Proof.Safety

open Sys2Proof.Machine

/-! ## The cells of the matrix -/

theorem cellAt_eq_readGrid (s : State) {n r c : Nat} (hr : r < n) (hc : c < n) :
    cellAt s r c = (s.readGrid n).get r c := (s.readGrid_get hr hc).symm

/-- The cell of a slot depends on the memory of the matrix window only. -/
theorem cellAt_congr {s t : State} (h : Memory.Agree 0x10000 0x20000 s.mem t.mem) {r c : Nat}
    (hr : r < 256) (hc : c < 256) : cellAt t r c = cellAt s r c := by
  have h1 : 0x10000 ≤ 0x10000 + 256 * r + c := by omega
  have h2 : 0x10000 + 256 * r + c < 0x20000 := by omega
  rw [cellAt, cellAt, byteAt, byteAt, Memory.read_matrix _ _ h1 h2, Memory.read_matrix _ _ h1 h2,
    h _ h1 h2]

/-- A stored grid is what the matrix holds. -/
theorem cellAt_storeRows {t : State} {m : Memory} {n : Nat} {g : Grid} (hg : g.Square n)
    (hn : n ≤ 256) (ht : t.mem = Memory.storeRows m 0 g) {r c : Nat} (hr : r < n) (hc : c < n) :
    cellAt t r c = g.get r c := by
  have hrows : ∀ row ∈ g, row.length ≤ 256 := fun row hrow => by
    obtain ⟨i, hi⟩ := List.getElem?_of_mem hrow
    rw [(hg.row_length hi).2]
    exact hn
  have hget := Memory.get?_storeRows m 0 g r c _ hrows (hg.getElem? hr hc)
  rw [Nat.zero_add, ← ht] at hget
  rw [cellAt, byteAt, Memory.read_eq, show 0x10000 + 256 * r + c = slotOffset r c from rfl, hget,
    Option.getD_some, MCell.ofByte_toByte]

/-! ## Memory -/

/-- The offsets that are ever stored: RSDATA and RSOUT, 33 bytes of GEN, PAYLOAD, DCW and
FINAL, and the matrix window (R50, R53). -/
abbrev storable (a : Nat) : Prop :=
  (0x01000 ≤ a ∧ a < 0x01120) ∨ (0x01200 ≤ a ∧ a < 0x01221) ∨ (0x02000 ≤ a ∧ a < 0x06000) ∨
    (0x10000 ≤ a ∧ a < 0x20000)

theorem MemInv.congr {s t : State} (h : MemInv s) (ht : t.mem = s.mem) : MemInv t :=
  ⟨ht ▸ h.wf, ht ▸ h.mapped⟩

theorem MemInv.store {s t : State} {base : Nat} {bytes : List Byte} (h : MemInv s)
    (ht : t.mem = Memory.store s.mem base bytes)
    (hs : ∀ a, base ≤ a → a < base + bytes.length → storable a) : MemInv t where
  wf := ht ▸ Memory.wf_store h.wf _ _
  mapped c hc := by
    rw [ht] at hc
    obtain hc | ⟨h1, h2⟩ := Memory.mem_store hc
    · exact h.mapped c hc
    · exact hs c.1 h1 h2

theorem MemInv.clearMatrix {s t : State} (h : MemInv s)
    (ht : t.mem = Memory.clearMatrix s.mem) : MemInv t where
  wf := ht ▸ Memory.wf_clearMatrix h.wf
  mapped c hc := by
    rw [ht] at hc
    exact h.mapped c (List.mem_filter.mp hc).1

theorem MemInv.storeRows {s t : State} {n : Nat} {g : Grid} (h : MemInv s)
    (ht : t.mem = Memory.storeRows s.mem 0 g) (hg : g.Square n) (hn : n ≤ 256) : MemInv t where
  wf := ht ▸ Memory.wf_storeRows h.wf _ _
  mapped c hc := by
    rw [ht] at hc
    obtain hc | ⟨i, hi, j, hj, rfl⟩ := hg.mem_storeRows hc
    · exact h.mapped c hc
    · exact .inr (.inr (.inr ⟨by dsimp only; omega, by dsimp only; omega⟩))

theorem MemInv.hostKeeps : HostKeeps MemInv where
  port _ _ _ h := h.congr rfl
  tick h := h.congr rfl
  fall _ := ⟨Memory.wf_nil, fun c hc => absurd hc List.not_mem_nil⟩
  rise h := h.congr rfl
  softReset _ _ h := h.congr rfl
  interrupt _ _ h := h.congr rfl
  issue _ _ _ _ h := h.congr rfl
  reject _ _ _ h := h.congr rfl
  acknowledge _ _ h := h.congr rfl
  configure _ _ _ h := h.congr rfl
  operands _ _ _ _ h := h.congr rfl
  rsdata w good region _ h := by
    have := rsdataWrite_within w good region
    exact h.store rfl fun x h1 h2 => .inl (by omega)
  payload w good region _ h := by
    have := payloadWrite_within w good region
    exact h.store rfl fun x h1 h2 => .inr (.inr (.inl (by omega)))

/-! ## The matrix -/

theorem MatrixInv.congr {s t : State} (h : MatrixInv s) (ht : t.mem = s.mem)
    (hn : t.mxn = s.mxn) : MatrixInv t where
  side := hn ▸ h.side
  cells c hc := h.cells c (ht ▸ hc)
  inside h0 c hc := hn ▸ h.inside (hn ▸ h0) c (ht ▸ hc)

/-- A store below the matrix window. -/
theorem MatrixInv.store {s t : State} {base : Nat} {bytes : List Byte} (h : MatrixInv s)
    (ht : t.mem = Memory.store s.mem base bytes) (hn : t.mxn = s.mxn)
    (hlow : base + bytes.length ≤ 0x10000) : MatrixInv t := by
  have hold : ∀ c ∈ t.mem, 0x10000 ≤ c.1 → c ∈ s.mem := fun c hc hle => by
    rw [ht] at hc
    obtain hc | ⟨-, hlt⟩ := Memory.mem_store hc
    · exact hc
    · omega
  exact ⟨hn ▸ h.side, fun c hc hle => h.cells c (hold c hc hle) hle,
    fun h0 c hc hle => hn ▸ h.inside (hn ▸ h0) c (hold c hc hle) hle⟩

/-- Without matrix bytes nothing but the side counts. -/
theorem MatrixInv.clearMatrix {s t : State} (hs : MemInv s)
    (ht : t.mem = Memory.clearMatrix s.mem)
    (side : t.mxn = 0 ∨ ∃ v, 1 ≤ v ∧ v ≤ 40 ∧ t.mxn = sideOf v) : MatrixInv t := by
  have hnone : ∀ c ∈ t.mem, ¬ 0x10000 ≤ c.1 := fun c hc hle => by
    rw [ht] at hc
    obtain ⟨hc, hout⟩ := List.mem_filter.mp hc
    have hmapped := hs.mapped c hc
    rw [Bool.not_eq_true', ← Bool.not_eq_true, Region.holds_iff] at hout
    simp only [Region.base, Region.size, Config.matrixStride] at hout
    omega
  exact ⟨side, fun c hc hle => absurd hle (hnone c hc), fun _ c hc hle => absurd hle (hnone c hc)⟩

/-- A grid of the matrix's own side whose cells have encodings. -/
theorem MatrixInv.storeRows {s t : State} {g : Grid} (h : MatrixInv s) (hm : MemInv t)
    (ht : t.mem = Memory.storeRows s.mem 0 g) (hn : t.mxn = s.mxn) (hg : g.Square s.mxn)
    (hp : g.Proper s.mxn) (h256 : s.mxn ≤ 256) : MatrixInv t where
  side := hn ▸ h.side
  cells c hc hle := by
    have hzero := hm.wf.2 c hc
    rw [ht] at hc
    obtain hc | ⟨i, hi, j, hj, rfl⟩ := hg.mem_storeRows hc
    · exact h.cells c hc hle
    · rw [Memory.unlisted_matrix hle (by dsimp only; omega)] at hzero
      exact (MCell.toByte_cases (hp i hi j hj)).resolve_left fun h0 => hzero (congrArg some h0.symm)
  inside h0 c hc hle := by
    rw [hn] at h0 ⊢
    rw [ht] at hc
    obtain hc | ⟨i, hi, j, hj, rfl⟩ := hg.mem_storeRows hc
    · exact h.inside h0 c hc hle
    · constructor <;> dsimp only <;> omega

/-- A cell of the matrix memory is one of the table of R53. -/
theorem MatrixInv.cellAt_proper {s : State} (h : MatrixInv s) {r c : Nat} (hr : r < 256)
    (hc : c < 256) : (cellAt s r c).func = true → (cellAt s r c).state ≠ .unset := by
  refine MCell.ofByte_proper ?_
  have h1 : 0x10000 ≤ 0x10000 + 256 * r + c := by omega
  have h2 : 0x10000 + 256 * r + c < 0x20000 := by omega
  rw [byteAt, Memory.read_matrix _ _ h1 h2, Memory.get?]
  split
  · next e he =>
    have haddr : e.1 = 0x10000 + 256 * r + c := by simpa using List.find?_some he
    exact .inr (h.cells e (List.mem_of_find?_eq_some he) (haddr ▸ h1))
  · exact .inl (by rw [Memory.unlisted_matrix h1 h2]; rfl)

theorem MatrixInv.readGrid_proper {s : State} (h : MatrixInv s) {n : Nat} (hn : n ≤ 256) :
    (s.readGrid n).Proper n := fun r hr c hc => by
  rw [← cellAt_eq_readGrid s hr hc]
  exact h.cellAt_proper (by omega) (by omega)

theorem MatrixInv.hostKeeps : HostKeeps MatrixInv where
  port _ _ _ h := h.congr rfl rfl
  tick h := h.congr rfl rfl
  fall _ := ⟨.inl rfl, fun c hc => absurd hc List.not_mem_nil, fun h0 => absurd rfl h0⟩
  rise h := h.congr rfl rfl
  softReset _ _ h := ⟨.inl rfl, h.cells, fun h0 => absurd rfl h0⟩
  interrupt _ _ h := h.congr rfl rfl
  issue _ _ _ _ h := h.congr rfl rfl
  reject _ _ _ h := h.congr rfl rfl
  acknowledge _ _ h := h.congr rfl rfl
  configure _ _ _ h := h.congr rfl rfl
  operands _ _ _ _ h := h.congr rfl rfl
  rsdata w good region _ h := by
    have := rsdataWrite_within w good region
    exact h.store rfl rfl (by omega)
  payload w good region _ h := by
    have := payloadWrite_within w good region
    exact h.store rfl rfl (by omega)

/-! ## The generator cache -/

theorem CacheInv.congr {s t : State} (h : CacheInv s) (ht : t.genCache = s.genCache) :
    CacheInv t :=
  ⟨ht ▸ h.polys, ht ▸ h.degrees, ht ▸ h.size⟩

theorem CacheInv.of_empty {t : State} (ht : t.genCache = []) : CacheInv t :=
  ⟨by simp [ht], by simp [ht], by simp [ht]⟩

/-- A use of a generator polynomial adds its own entry, once and if there is room (R60). -/
theorem CacheInv.cacheGenerator {s t : State} {n : Nat} (h : CacheInv s)
    (ht : t.genCache = cacheGenerator n s.genCache) : CacheInv t := by
  unfold Machine.cacheGenerator at ht
  split at ht
  · exact h.congr ht
  split at ht
  · next hnew hroom =>
    have hnew : ∀ e ∈ s.genCache, n ≠ e.degree := fun e he heq =>
      hnew (List.any_eq_true.mpr ⟨e, he, by simp [heq]⟩)
    refine ⟨?_, ?_, ?_⟩ <;> rw [ht]
    · exact List.forall_mem_cons.mpr ⟨rfl, h.polys⟩
    · exact List.Pairwise.cons hnew h.degrees
    · exact hroom
  · exact h.congr ht

theorem CacheInv.hostKeeps : HostKeeps CacheInv where
  port _ _ _ h := h.congr rfl
  tick h := h.congr rfl
  fall _ := .of_empty rfl
  rise h := h.congr rfl
  softReset _ _ _ := .of_empty rfl
  interrupt _ _ h := h.congr rfl
  issue _ _ _ _ h := h.congr rfl
  reject _ _ _ h := h.congr rfl
  acknowledge _ _ h := h.congr rfl
  configure _ _ _ h := h.congr rfl
  operands _ _ _ _ h := h.congr rfl
  rsdata _ _ _ _ h := h.congr rfl
  payload _ _ _ _ h := h.congr rfl

end Sys2Proof.Safety
end

section
/-! SUPPORT. The rows of the BLOCK ROM, the lengths of the codeword buffers, and the
analyzer against Reference (10_state.md R42, 45_interleave.md, 43_analyzer.md). -/

namespace Sys2Proof.Machine

open Sys2Proof.Reference Sys2Proof.Safety

/-! ## The rows of the BLOCK ROM -/

/-- Every row of the table fits the registers and the buffers that hold it. -/
theorem blockRom_bounds {v : Nat} (h1 : 1 ≤ v) (h40 : v ≤ 40) (e : BitVec 2) :
    (blockRom v e).count1 < 256 ∧ (blockRom v e).data1 < 256 ∧ (blockRom v e).count2 < 256 ∧
    (blockRom v e).data2 < 256 ∧ 1 ≤ (blockRom v e).ec ∧ (blockRom v e).ec < 256 ∧
    dataBytes (blockRom v e) < 4096 ∧ totalCodewords (blockRom v e) < 4096 := by
  have table : ∀ u < 41, 1 ≤ u → ∀ e : BitVec 2,
      (blockRom u e).count1 < 256 ∧ (blockRom u e).data1 < 256 ∧ (blockRom u e).count2 < 256 ∧
      (blockRom u e).data2 < 256 ∧ 1 ≤ (blockRom u e).ec ∧ (blockRom u e).ec < 256 ∧
      dataBytes (blockRom u e) < 4096 ∧ totalCodewords (blockRom u e) < 4096 := by decide +kernel
  exact table v (by omega) h1 e

theorem remRom_lt {v : Nat} (h1 : 1 ≤ v) (h40 : v ≤ 40) : remRom v < 8 := by
  unfold remRom
  split_ifs <;> omega

/-! ## The length of the final codewords -/

theorem sum_range_indicator (n k : Nat) (h : n ≤ k) :
    ((List.range k).map fun i => if i < n then 1 else 0).sum = n := by
  induction k generalizing n with
  | zero => simp; omega
  | succ k ih =>
    rw [List.range_succ, List.map_append, List.sum_append]
    obtain hle | rfl : n ≤ k ∨ n = k + 1 := by omega
    · simp [ih n hle]; omega
    · have hall : (List.range k).map (fun i => if i < k + 1 then 1 else 0) =
          (List.range k).map fun i => if i < k then 1 else 0 :=
        List.map_congr_left fun i hi => by
          have := List.mem_range.mp hi
          rw [if_pos (by omega), if_pos this]
      rw [hall, ih k (Nat.le_refl k)]
      simp

/-- Column interleave keeps every byte of blocks that the columns hold (R283). -/
theorem interleaveColumns_length (columns : Nat) (blocks : List (List Byte))
    (h : ∀ b ∈ blocks, b.length ≤ columns) :
    (interleaveColumns columns blocks).length = (blocks.map List.length).sum := by
  induction blocks with
  | nil => simp [interleaveColumns]
  | cons b bs ih =>
    rw [List.forall_mem_cons] at h
    have hcol : ∀ col, ((b :: bs).filterMap (fun blk => blk[col]?)).length =
        (if col < b.length then 1 else 0) + (bs.filterMap (fun blk => blk[col]?)).length := by
      intro col
      rw [List.filterMap_cons]
      split
      · next hn => rw [if_neg (by simpa using hn), Nat.zero_add]
      · next y hy =>
        rw [if_pos (List.getElem?_eq_some_iff.mp hy).1, List.length_cons, Nat.add_comm]
    have ih := ih h.2
    simp only [interleaveColumns, List.length_flatMap] at ih ⊢
    simp only [hcol, List.sum_map_add, ih, sum_range_indicator _ _ h.1, List.map_cons,
      List.sum_cons]

theorem cutBlocks_spec (size count : Nat) (d : List Byte) (h : count * size ≤ d.length) :
    (cutBlocks size count d).length = count ∧ ∀ b ∈ cutBlocks size count d, b.length = size := by
  induction count generalizing d with
  | zero => simp [cutBlocks]
  | succ count ih =>
    rw [Nat.succ_mul] at h
    obtain ⟨hlen, hall⟩ := ih (d.drop size) (by rw [List.length_drop]; omega)
    refine ⟨by rw [cutBlocks, List.length_cons, hlen], List.forall_mem_cons.mpr ⟨?_, hall⟩⟩
    rw [List.length_take]
    omega

theorem sum_map_const {α : Type} (l : List α) (f : α → Nat) (k : Nat) (h : ∀ x ∈ l, f x = k) :
    (l.map f).sum = l.length * k := by
  rw [List.sum_eq_card_nsmul _ k (by simpa using h), List.length_map, smul_eq_mul]

/-- The final codewords are the version's total codewords (R284). -/
theorem finalCodewords_length (b : BlockEntry) (d : List Byte) (hec : 1 ≤ b.ec)
    (hd : d.length = dataBytes b) : (finalCodewords b d).length = totalCodewords b := by
  unfold dataBytes at hd
  obtain ⟨hlen1, hall1⟩ := cutBlocks_spec b.data1 b.count1 d (by omega)
  obtain ⟨hlen2, hall2⟩ := cutBlocks_spec b.data2 b.count2 (d.drop (b.count1 * b.data1))
    (by rw [List.length_drop]; omega)
  have hsplit : (splitBlocks b d).length = numBlocks b := by
    rw [splitBlocks, List.length_append, hlen1, hlen2, numBlocks]
  have hdata : ((splitBlocks b d).map List.length).sum = dataBytes b := by
    rw [splitBlocks, List.map_append, List.sum_append, sum_map_const _ _ _ hall1,
      sum_map_const _ _ _ hall2, hlen1, hlen2, dataBytes]
  have hfit : ∀ blk ∈ splitBlocks b d, blk.length ≤ max b.data1 b.data2 := by
    intro blk hblk
    obtain hblk | hblk := List.mem_append.mp hblk
    · rw [hall1 blk hblk]; exact Nat.le_max_left _ _
    · rw [hall2 blk hblk]; exact Nat.le_max_right _ _
  have hparity : ∀ blk ∈ (splitBlocks b d).map (fun blk => rsEc blk b.ec), blk.length = b.ec := by
    intro blk hblk
    obtain ⟨x, -, rfl⟩ := List.mem_map.mp hblk
    exact rsEc_length x b.ec hec
  rw [finalCodewords, List.length_append, interleaveColumns_length _ _ hfit,
    interleaveColumns_length _ _ (fun blk hblk => (hparity blk hblk).le), hdata,
    sum_map_const _ _ _ hparity, List.length_map, hsplit, totalCodewords]

/-! ## The analyzer against Reference -/

theorem isAlnum_iff (b : Byte) : isAlnum b = true ↔ b ∈ alphabet := by
  have table : ∀ b : Byte, isAlnum b = true ↔ b ∈ alphabet := by decide +kernel
  exact table b

/-- The machine's classification is Reference's (R230-R232). -/
theorem modeOf_eq_textMode (p : List Byte) : modeOf p = textMode p := by
  have hnum : (p ≠ [] ∧ p.all isDigit) ↔ isNumericText p := by
    simp [isNumericText, isDigit, List.all_eq_true]
  have halnum : (p ≠ [] ∧ p.all isAlnum) ↔ isAlnumText p := by
    simp [isAlnumText, List.all_eq_true, isAlnum_iff]
  simp only [modeOf, textMode, hnum, halnum]

theorem eciOf_eq_textEci (p : List Byte) : eciOf p = textEci p := by
  rw [Bool.eq_iff_iff]
  simp [eciOf, textEci, modeOf_eq_textMode, List.any_eq_true]

theorem payloadBits_eq_textBits (m : Mode) (n : Nat) : payloadBits m n = textBits m n := by
  cases m with
  | numeric =>
    have h3 : n % 3 = 0 ∨ n % 3 = 1 ∨ n % 3 = 2 := by omega
    rcases h3 with h | h | h <;> simp [payloadBits, textBits, h]
  | alphanumeric => rfl
  | byte => rfl

theorem ccwRom_eq_countWidth (m : Mode) {v : Nat} (h1 : 1 ≤ v) (h40 : v ≤ 40) :
    ccwRom m v = countWidth m v := by
  have table : ∀ m, m ∈ [Mode.numeric, .alphanumeric, .byte] → ∀ v < 41, 1 ≤ v →
      ccwRom m v = countWidth m v := by decide
  exact table m (by cases m <;> simp) v (by omega) h1

/-- Required bits at a version of the tables (R242). -/
theorem requiredBits_eq_bitsNeeded (p : List Byte) {v : Nat} (h1 : 1 ≤ v) (h40 : v ≤ 40) :
    requiredBits (classify p) v = bitsNeeded p v := by
  simp [requiredBits, bitsNeeded, classify, eciOf_eq_textEci, modeOf_eq_textMode,
    ccwRom_eq_countWidth _ h1 h40, payloadBits_eq_textBits]

theorem bandRange_eq {b : BitVec 2} {lo hi : Nat} (hlo : bandMin b = some lo)
    (hhi : bandMax b = some hi) : bandRange b = (lo, hi) ∧ b ≠ 3 := by
  have table : ∀ b : BitVec 2, (b = 3 ∧ bandMin b = none) ∨
      (b ≠ 3 ∧ bandMin b = some (bandRange b).1 ∧ bandMax b = some (bandRange b).2) := by decide
  obtain ⟨-, hnone⟩ | ⟨hne, h1, h2⟩ := table b
  · simp [hnone] at hlo
  · rw [h1] at hlo
    rw [h2] at hhi
    exact ⟨Prod.ext (Option.some.inj hlo) (Option.some.inj hhi), hne⟩

/-- The payload that a command reads is the statements' payload (R11). -/
theorem payload_eq_payloadOf (s : State) : s.payload = payloadOf s := by
  rw [State.payload, State.readBuf, Memory.readBlock_eq]
  rfl

theorem payload_length (s : State) : s.payload.length = s.payloadLen.toNat :=
  Memory.readBlock_length _ _ _ _

/-- The scan selects the least version that fits (R244). -/
theorem selectVersion_selects {s : State} {p : List Byte} {a : Analysis} {v : Nat}
    (h : selectVersion s = .ok (p, a, v)) : versionSelected s (payloadOf s) v := by
  obtain ⟨rfl, rfl, -, lo, hi, hlo, hhi, hscan⟩ := selectVersion_ok h
  obtain ⟨hband, -⟩ := bandRange_eq hlo hhi
  have hrange := band_range hlo hhi
  have fits : ∀ u, versionFits s (payloadOf s) u ↔
      (max lo s.config.minver.toNat ≤ u ∧ u ≤ hi) ∧
        requiredBits (classify s.payload) u ≤ capacityBits u s.config.ecl := by
    intro u
    simp only [versionFits, hband, capacityBits, ← payload_eq_payloadOf]
    constructor
    · rintro ⟨h1, h2, h3, h4⟩
      exact ⟨⟨by omega, h2⟩, by rwa [requiredBits_eq_bitsNeeded _ (by omega) (by omega)]⟩
    · rintro ⟨⟨h1, h2⟩, h4⟩
      rw [requiredBits_eq_bitsNeeded _ (by omega) (by omega)] at h4
      exact ⟨by omega, h2, by omega, h4⟩
  obtain ⟨h1, h2, h3⟩ := scanVersions_some hscan
  refine ⟨(fits v).mpr ⟨⟨h1, h2⟩, h3⟩, fun u hu hfit => ?_⟩
  obtain ⟨⟨h1', -⟩, hcap⟩ := (fits u).mp hfit
  have hleast := (List.find?_range'_eq_some.mp hscan).2.2 u h1' hu
  simp [hcap] at hleast

end Sys2Proof.Machine
end

section
/-! SUPPORT. What STAGE certifies (10_state.md R54, 48_pipeline_system.md R394), in parts:
what each part depends on, and how each phase of the pipeline establishes its own. -/

namespace Sys2Proof.Safety

open Sys2Proof.Machine Sys2Proof.Reference

/-! ## The parts of the invariant -/

/-- The analyzer's results agree with the configuration (R245). -/
structure Analyzed (s : State) : Prop where
  version : 1 ≤ s.version ∧ s.version ≤ 40
  side : s.arVersion.side.toNat = sideOf s.version
  limits : s.payloadLen.toNat ≤ 8192 ∧ s.config.band ≠ 3 ∧ s.arCount = s.payloadLen
  capacity : s.capBits.toNat = 8 * dataBytes (blockRom s.version s.config.ecl)
  blocks : s.blkG1.count.toNat = (blockRom s.version s.config.ecl).count1 ∧
    s.blkG1.data.toNat = (blockRom s.version s.config.ecl).data1 ∧
    s.blkG1.ec.toNat = (blockRom s.version s.config.ecl).ec ∧
    s.blkG2.count.toNat = (blockRom s.version s.config.ecl).count2 ∧
    s.blkG2.data.toNat = (blockRom s.version s.config.ecl).data2
  analysis : payloadWritten s →
    versionSelected s (payloadOf s) s.version ∧
    s.arMode.mode.toNat = modeCode (textMode (payloadOf s)) ∧
    s.arMode.eci = textEci (payloadOf s) ∧
    s.arReqbits.toNat = bitsNeeded (payloadOf s) s.version

/-- The data codewords are there (R260). -/
def Encoded (s : State) : Prop :=
  s.dcwLen.toNat = dataBytes (blockRom s.version s.config.ecl) ∧
    ∀ i < s.dcwLen.toNat, Memory.get? s.mem (0x04000 + i) ≠ none

/-- The final codewords are there (R280). -/
def Interleaved (s : State) : Prop :=
  s.finalLen.toNat = totalCodewords (blockRom s.version s.config.ecl) ∧
    s.streamBits.toNat = 8 * s.finalLen.toNat + remRom s.version ∧
    ∀ i < s.finalLen.toNat, Memory.get? s.mem (0x05000 + i) ≠ none

/-- The matrix has the version's side and its function modules (R300). -/
structure MatrixBuilt (s : State) : Prop where
  side : s.mxn = sideOf s.version
  functions : ∀ r < s.mxn, ∀ c < s.mxn,
    (cellAt s r c).func = (geometryColour s.version r c).isSome

/-- The matrix is the geometry's (R301-R308). -/
def GeometryCells (s : State) : Prop :=
  ∀ r < s.mxn, ∀ c < s.mxn, cellAt s r c = geometryCell s.version r c

/-- Every cell has a colour (R323). -/
def CellsResolved (s : State) : Prop :=
  ∀ r < s.mxn, ∀ c < s.mxn, (cellAt s r c).state ≠ .unset

/-- Each total is the sum of its four penalties (R350). -/
def PenaltiesAdd (s : State) : Prop :=
  ∀ k : Fin 8,
    s.penalty[k] = s.penRule[k][0] + s.penRule[k][1] + s.penRule[k][2] + s.penRule[k][3]

/-- FORMAT_BITS is the format value of the level and the mask (R365). -/
def FormatKept (s : State) : Prop :=
  s.formatBits.toNat = formatInfo s.config.ecl s.maskSel.toNat

/-- The parts that stage `g` certifies. -/
structure Certifies (g : Stage) (s : State) : Prop where
  analyzed : g ≠ .idle → Analyzed s
  encoded : 2 ≤ g.toNat → Encoded s
  interleaved : 3 ≤ g.toNat → Interleaved s
  built : 4 ≤ g.toNat → MatrixBuilt s
  geometry : g = .geometry → GeometryCells s
  resolved : 5 ≤ g.toNat → CellsResolved s
  penalties : PenaltiesAdd s
  format : g = .checksummed → FormatKept s

theorem stageInv_iff (s : State) : StageInv s ↔ Certifies s.status.stage s :=
  ⟨fun h => ⟨fun hg => ⟨h.version hg, h.side hg, h.limits hg, h.capacity hg, h.blocks hg,
      h.analysis hg⟩, h.encoded, h.interleaved, fun hg => ⟨h.matrix hg, h.functions hg⟩,
      h.geometry, h.resolved, h.penalties, h.checksummed⟩,
   fun h => ⟨fun hg => (h.analyzed hg).version, fun hg => (h.analyzed hg).side,
      fun hg => (h.analyzed hg).limits, fun hg => (h.analyzed hg).capacity,
      fun hg => (h.analyzed hg).blocks, fun hg => (h.analyzed hg).analysis, h.encoded,
      h.interleaved, fun hg => (h.built hg).side, fun hg => (h.built hg).functions, h.geometry,
      h.resolved, h.penalties, h.format⟩⟩

theorem StageInv.certifies {s : State} {g : Stage} (h : StageInv s) (hs : s.status.stage = g) :
    Certifies g s := hs ▸ (stageInv_iff s).mp h

theorem Certifies.stageInv {s : State} {g : Stage} (h : Certifies g s)
    (hs : s.status.stage = g) : StageInv s := (stageInv_iff s).mpr (hs ▸ h)

/-! ## What each part depends on -/

/-- The registers of the analyzer's part. -/
def analysisRegs (s : State) :=
  (s.arVersion, s.config, s.payloadLen, s.arCount, s.capBits, s.blkG1, s.blkG2, s.arMode,
    s.arReqbits)

/-- A written payload reads the same whatever else changes. -/
theorem payloadOf_congr {s t : State} (hlen : t.payloadLen = s.payloadLen)
    (hmem : Memory.Agree 0x2000 0x4000 s.mem t.mem) (h8192 : s.payloadLen.toNat ≤ 8192)
    (hw : payloadWritten s) : payloadOf t = payloadOf s := by
  unfold payloadOf bytesAt
  rw [hlen]
  refine List.map_congr_left fun i hi => ?_
  have hi := List.mem_range.mp hi
  obtain ⟨b, hb⟩ := Option.ne_none_iff_exists'.mp (hw i hi)
  rw [byteAt, byteAt, Memory.read_eq, Memory.read_eq, hmem _ (by omega) (by omega), hb]
  rfl

theorem payloadWritten_congr {s t : State} (hlen : t.payloadLen = s.payloadLen)
    (hmem : Memory.Agree 0x2000 0x4000 s.mem t.mem) (h8192 : s.payloadLen.toNat ≤ 8192)
    (hw : payloadWritten t) : payloadWritten s := fun i hi => by
  rw [← hmem _ (by omega) (by omega)]
  exact hw i (hlen ▸ hi)

theorem Analyzed.congr {s t : State} (h : Analyzed s) (hr : analysisRegs t = analysisRegs s)
    (hm : Memory.Agree 0x2000 0x4000 s.mem t.mem) : Analyzed t := by
  simp only [analysisRegs, Prod.mk.injEq] at hr
  obtain ⟨hver, hcfg, hlen, hcount, hcap, hg1, hg2, hmode, hreq⟩ := hr
  have hv : t.version = s.version := by rw [State.version, hver]; rfl
  refine ⟨by rw [hv]; exact h.version, by rw [hv, hver]; exact h.side,
    by rw [hlen, hcfg, hcount]; exact h.limits, by rw [hv, hcfg, hcap]; exact h.capacity,
    by rw [hv, hcfg, hg1, hg2]; exact h.blocks, fun hw => ?_⟩
  have hw := payloadWritten_congr hlen hm h.limits.1 hw
  have hp := payloadOf_congr hlen hm h.limits.1 hw
  unfold versionSelected versionFits
  rw [hp, hv, hcfg, hmode, hreq]
  exact h.analysis hw

theorem Encoded.congr {s t : State} (h : Encoded s)
    (hr : (t.arVersion, t.config, t.dcwLen) = (s.arVersion, s.config, s.dcwLen))
    (hm : Memory.Agree 0x4000 0x5000 s.mem t.mem) : Encoded t := by
  simp only [Prod.mk.injEq] at hr
  obtain ⟨hver, hcfg, hlen⟩ := hr
  unfold Encoded State.version
  rw [hver, hcfg, hlen]
  refine ⟨h.1, fun i hi => ?_⟩
  have := s.dcwLen.isLt
  rw [hm _ (by omega) (by omega)]
  exact h.2 i hi

theorem Interleaved.congr {s t : State} (h : Interleaved s)
    (hr : (t.arVersion, t.config, t.finalLen, t.streamBits) =
      (s.arVersion, s.config, s.finalLen, s.streamBits))
    (hm : Memory.Agree 0x5000 0x6000 s.mem t.mem) : Interleaved t := by
  simp only [Prod.mk.injEq] at hr
  obtain ⟨hver, hcfg, hlen, hbits⟩ := hr
  unfold Interleaved State.version
  rw [hver, hcfg, hlen, hbits]
  refine ⟨h.1, h.2.1, fun i hi => ?_⟩
  have := s.finalLen.isLt
  rw [hm _ (by omega) (by omega)]
  exact h.2.2 i hi

section
variable {s t : State} (hr : (t.arVersion, t.mxn) = (s.arVersion, s.mxn))
  (hm : Memory.Agree 0x10000 0x20000 s.mem t.mem) (h256 : s.mxn ≤ 256)
include hr hm h256

theorem MatrixBuilt.congr (h : MatrixBuilt s) : MatrixBuilt t := by
  simp only [Prod.mk.injEq] at hr
  obtain ⟨hver, hn⟩ := hr
  refine ⟨?_, fun r hr' c hc => ?_⟩
  · rw [State.version, hn, hver]
    exact h.side
  · rw [hn] at hr' hc
    rw [cellAt_congr hm (by omega) (by omega), State.version, hver]
    exact h.functions r hr' c hc

theorem GeometryCells.congr (h : GeometryCells s) : GeometryCells t := fun r hr' c hc => by
  simp only [Prod.mk.injEq] at hr
  obtain ⟨hver, hn⟩ := hr
  rw [hn] at hr' hc
  rw [cellAt_congr hm (by omega) (by omega), State.version, hver]
  exact h r hr' c hc

theorem CellsResolved.congr (h : CellsResolved s) : CellsResolved t := fun r hr' c hc => by
  simp only [Prod.mk.injEq] at hr
  rw [hr.2] at hr' hc
  rw [cellAt_congr hm (by omega) (by omega)]
  exact h r hr' c hc

end

/-- The registers of all parts, the others at their reset values. -/
def stageRegs (s : State) : State :=
  { State.reset with
    status := State.reset.status.withStage s.status.stage
    config := s.config, payloadLen := s.payloadLen, arMode := s.arMode, arCount := s.arCount
    arVersion := s.arVersion, arReqbits := s.arReqbits, capBits := s.capBits
    dcwLen := s.dcwLen, finalLen := s.finalLen, streamBits := s.streamBits, blkG1 := s.blkG1
    blkG2 := s.blkG2, maskSel := s.maskSel, formatBits := s.formatBits, penalty := s.penalty
    penRule := s.penRule, mxn := s.mxn }

theorem Certifies.mxn_le {g : Stage} {s : State} (h : Certifies g s) (hg : 4 ≤ g.toNat) :
    s.mxn ≤ 177 := by
  rw [(h.built hg).side]
  exact sideOf_le (h.analyzed (by rintro rfl; exact absurd hg (by decide))).version.2

/-- The invariant depends on the named registers and on the memory from PAYLOAD on. -/
theorem StageInv.congr {s t : State} (h : StageInv s) (hr : stageRegs t = stageRegs s)
    (hm : Memory.Agree 0x2000 0x20000 s.mem t.mem) : StageInv t := by
  have hstage : t.status.stage = s.status.stage := (congrArg (fun u : State => u.status.stage) hr :)
  have hmat : (t.arVersion, t.mxn) = (s.arVersion, s.mxn) :=
    (congrArg (fun u : State => (u.arVersion, u.mxn)) hr :)
  have hm' : Memory.Agree 0x10000 0x20000 s.mem t.mem := hm.mono (by omega) (by omega)
  have hc := (stageInv_iff s).mp h
  refine Certifies.stageInv (g := s.status.stage) ⟨fun hg => ?_, fun hg => ?_, fun hg => ?_,
    fun hg => ?_, fun hg => ?_, fun hg => ?_, ?_, fun hg => ?_⟩ hstage
  · exact (hc.analyzed hg).congr (congrArg analysisRegs hr :) (hm.mono (by omega) (by omega))
  · exact (hc.encoded hg).congr (congrArg (fun u : State => (u.arVersion, u.config, u.dcwLen)) hr :)
      (hm.mono (by omega) (by omega))
  · exact (hc.interleaved hg).congr
      (congrArg (fun u : State => (u.arVersion, u.config, u.finalLen, u.streamBits)) hr :)
      (hm.mono (by omega) (by omega))
  · exact (hc.built hg).congr hmat hm' (by have := hc.mxn_le hg; omega)
  · exact (hc.geometry hg).congr hmat hm' (by have := hc.mxn_le (by rw [hg]; decide); omega)
  · exact (hc.resolved hg).congr hmat hm' (by have := hc.mxn_le (by omega); omega)
  · have hpen : t.penalty = s.penalty := (congrArg State.penalty hr :)
    have hrule : t.penRule = s.penRule := (congrArg State.penRule hr :)
    unfold PenaltiesAdd
    rw [hpen, hrule]
    exact hc.penalties
  · have hcfg : t.config = s.config := (congrArg State.config hr :)
    have hsel : t.maskSel = s.maskSel := (congrArg State.maskSel hr :)
    have hfmt : t.formatBits = s.formatBits := (congrArg State.formatBits hr :)
    unfold FormatKept
    rw [hcfg, hsel, hfmt]
    exact hc.format hg

/-- In stage IDLE only the penalties are certified. -/
theorem StageInv.of_idle {s : State} (hs : s.status.stage = .idle) (hp : PenaltiesAdd s) :
    StageInv s :=
  Certifies.stageInv (g := .idle) ⟨fun h => absurd rfl h, fun h => absurd h (by decide),
    fun h => absurd h (by decide), fun h => absurd h (by decide), nofun,
    fun h => absurd h (by decide), hp, nofun⟩ hs

theorem PenaltiesAdd.reset {s : State} (hp : s.penalty = State.reset.penalty)
    (hr : s.penRule = State.reset.penRule) : PenaltiesAdd s := by
  unfold PenaltiesAdd
  rw [hp, hr]
  decide

theorem StageInv.hostKeeps : HostKeeps StageInv where
  port _ _ _ h := h.congr rfl (.refl _ _ _)
  tick h := h.congr rfl (.refl _ _ _)
  fall _ := .of_idle rfl (.reset rfl rfl)
  rise h := h.congr rfl (.refl _ _ _)
  softReset _ _ _ := .of_idle rfl (.reset rfl rfl)
  interrupt _ _ h := h.congr rfl (.refl _ _ _)
  issue _ _ _ _ h := h.congr rfl (.refl _ _ _)
  reject _ _ _ h := h.congr rfl (.refl _ _ _)
  acknowledge _ _ h := h.congr rfl (.refl _ _ _)
  configure _ _ _ h := .of_idle rfl h.penalties
  operands _ _ _ _ h := h.congr rfl (.refl _ _ _)
  rsdata w good region _ h := h.congr rfl
    (.store _ (.inr (by have := rsdataWrite_within w good region; omega)))
  payload _ _ _ _ h := .of_idle rfl h.penalties

end Sys2Proof.Safety
end

section
/-! SUPPORT. Every phase of the pipeline keeps the invariants of memory, matrix, cache and
STAGE, and so does every command and every step. -/

namespace Sys2Proof.Safety

open Sys2Proof.Machine Sys2Proof.Reference

/-- The part of the invariant that the commands' rules work on. -/
structure DataInv (s : State) : Prop where
  memory : MemInv s
  matrix : MatrixInv s
  cache : CacheInv s
  stage : StageInv s

/-- A change outside memory, matrix, cache and the registers of the stages. -/
theorem DataInv.congr {s t : State} (h : DataInv s) (hm : t.mem = s.mem)
    (hc : t.genCache = s.genCache) (hr : stageRegs t = stageRegs s) : DataInv t :=
  ⟨h.memory.congr hm, h.matrix.congr hm (congrArg State.mxn hr :), h.cache.congr hc,
    h.stage.congr hr (hm ▸ .refl _ _ _)⟩

theorem DataInv.drawn {s : State} (h : DataInv s) : DataInv s.drawn := h.congr rfl rfl rfl

theorem DataInv.complete {s : State} (h : DataInv s) : DataInv s.complete := h.congr rfl rfl rfl

/-! ## The analyzer -/

theorem toNat_ofNat_of_lt {w n : Nat} (h : n < 2 ^ w) : (BitVec.ofNat w n).toNat = n := by
  rw [BitVec.toNat_ofNat, Nat.mod_eq_of_lt h]

theorem modeCode_eq_indicator (m : Mode) : m.indicator.toNat = modeCode m := by
  cases m <;> rfl

theorem tooLong_eq_false {s : State} (h : tooLong s = false) : s.payloadLen.toNat ≤ 8192 :=
  Nat.not_lt.mp (of_decide_eq_false h)

theorem classify_count (s : State) :
    BitVec.ofNat 16 (classify s.payload).count = s.payloadLen := by
  rw [show (classify s.payload).count = s.payloadLen.toNat from payload_length s,
    BitVec.ofNat_toNat, BitVec.setWidth_eq]

theorem classify_mode (s : State) :
    (classify s.payload).mode.indicator.toNat = modeCode (textMode (payloadOf s)) := by
  rw [modeCode_eq_indicator, ← payload_eq_payloadOf, ← modeOf_eq_textMode]
  rfl

theorem classify_eci (s : State) : (classify s.payload).eci = textEci (payloadOf s) := by
  rw [← payload_eq_payloadOf, ← eciOf_eq_textEci]
  rfl

/-- CLASSIFY renews what an earlier analysis of the same payload wrote (R237). -/
theorem DataInv.writeClass {s : State} (h : DataInv s) :
    DataInv (writeClass (classify s.payload) s) := by
  refine ⟨h.memory.congr rfl, h.matrix.congr rfl rfl, h.cache.congr rfl, ?_⟩
  have hc := (stageInv_iff s).mp h.stage
  refine Certifies.stageInv (g := s.status.stage) ⟨fun hg => ?_, hc.encoded, hc.interleaved,
    fun hg => ⟨(hc.built hg).side, (hc.built hg).functions⟩, hc.geometry, hc.resolved,
    hc.penalties, hc.format⟩ rfl
  have ha := hc.analyzed hg
  refine ⟨ha.version, ha.side, ⟨ha.limits.1, ha.limits.2.1, classify_count s⟩, ha.capacity,
    ha.blocks, fun hw => ?_⟩
  obtain ⟨hsel, -, -, hreq⟩ := ha.analysis hw
  exact ⟨hsel, classify_mode s, classify_eci s, hreq⟩

/-- What ANALYZE certifies (R245). -/
theorem analyzed_writeAnalysis {s : State} {v : Nat}
    (hsel : selectVersion s = .ok (s.payload, classify s.payload, v)) :
    Analyzed (writeAnalysis (classify s.payload) v s) := by
  obtain ⟨h1, h40⟩ := selectVersion_range hsel
  obtain ⟨-, -, hfit, lo, hi, hlo, hhi, hscan⟩ := selectVersion_ok hsel
  have hselected := selectVersion_selects hsel
  obtain ⟨hcount1, hdata1, hcount2, hdata2, -, hec, hdata, -⟩ := blockRom_bounds h1 h40 s.config.ecl
  have hv : (writeAnalysis (classify s.payload) v s).version = v :=
    toNat_ofNat_of_lt (show v < 2 ^ 6 by omega)
  have hreq : requiredBits (classify s.payload) v = bitsNeeded (payloadOf s) v := by
    rw [requiredBits_eq_bitsNeeded _ h1 h40, payload_eq_payloadOf]
  have hcap : bitsNeeded (payloadOf s) v ≤ 8 * dataBytes (blockRom v s.config.ecl) :=
    hselected.1.2.2.2
  refine ⟨by rw [hv]; exact ⟨h1, h40⟩, ?_, ?_, ?_, ?_,
    fun _ => ⟨?_, classify_mode s, classify_eci s, ?_⟩⟩
  · rw [hv]
    exact toNat_ofNat_of_lt (by have := sideOf_le h40; omega)
  · exact ⟨tooLong_eq_false hfit, (bandRange_eq hlo hhi).2, classify_count s⟩
  · rw [hv]
    exact toNat_ofNat_of_lt (show 8 * dataBytes (blockRom v s.config.ecl) < 2 ^ 16 by omega)
  · rw [hv]
    exact ⟨toNat_ofNat_of_lt hcount1, toNat_ofNat_of_lt hdata1, toNat_ofNat_of_lt hec,
      toNat_ofNat_of_lt hcount2, toNat_ofNat_of_lt hdata2⟩
  · rw [hv]
    exact hselected
  · rw [hv]
    show (BitVec.ofNat 18 (requiredBits (classify s.payload) v)).toNat = bitsNeeded (payloadOf s) v
    rw [hreq]
    exact toNat_ofNat_of_lt (by omega)

theorem DataInv.writeAnalysis {s : State} {v : Nat} (h : DataInv s)
    (hsel : selectVersion s = .ok (s.payload, classify s.payload, v)) :
    DataInv (writeAnalysis (classify s.payload) v s) :=
  ⟨h.memory.congr rfl, h.matrix.congr rfl rfl, h.cache.congr rfl,
    Certifies.stageInv (g := .analyzed) ⟨fun _ => analyzed_writeAnalysis hsel,
      fun h => absurd h (by decide), fun h => absurd h (by decide), fun h => absurd h (by decide),
      nofun, fun h => absurd h (by decide), h.stage.penalties, nofun⟩ rfl⟩

/-! ## The codewords -/

theorem dataCodewords_length (s : State) (p : List Byte) :
    (dataCodewords s p).length = dataBytes (blockRom s.version s.config.ecl) :=
  packBits_length _ _

theorem get?_store_ne_none {m : Memory} {base i : Nat} {bytes : List Byte}
    (hi : i < bytes.length) : Memory.get? (Memory.store m base bytes) (base + i) ≠ none := by
  rw [Memory.get?_store, if_pos (by omega), Nat.add_sub_cancel_left,
    List.getElem?_eq_getElem hi]
  exact Option.some_ne_none _

theorem DataInv.encodeData {s : State} (h : DataInv s) (hs : s.status.stage = .analyzed)
    (p : List Byte) : DataInv (encodeData p s) := by
  have hc := h.stage.certifies hs
  have ha := hc.analyzed (by decide)
  have hlen := dataCodewords_length s p
  have hbound := (blockRom_bounds ha.version.1 ha.version.2 s.config.ecl).2.2.2.2.2.2.1
  have hmem : (Machine.encodeData p s).mem = Memory.store s.mem 0x4000 (dataCodewords s p) := rfl
  have hdcw : (Machine.encodeData p s).dcwLen.toNat =
      dataBytes (blockRom s.version s.config.ecl) := by
    show (BitVec.ofNat 12 (dataCodewords s p).length).toNat = _
    rw [hlen, toNat_ofNat_of_lt hbound]
  refine ⟨h.memory.store hmem fun a h1 h2 => ?_, h.matrix.store hmem rfl (by omega),
    h.cache.congr rfl, Certifies.stageInv (g := .encoded) ⟨fun _ => ha.congr rfl ?_,
      fun _ => ⟨hdcw, fun i hi => ?_⟩, fun h => absurd h (by decide),
      fun h => absurd h (by decide), nofun, fun h => absurd h (by decide), hc.penalties,
      nofun⟩ rfl⟩
  · exact .inr (.inr (.inl (by omega)))
  · rw [hmem]
    exact .store _ (.inl (by omega))
  · rw [hmem]
    exact get?_store_ne_none (by omega)

theorem DataInv.interleave {s : State} (h : DataInv s) (hs : s.status.stage = .encoded) :
    DataInv (interleave s) := by
  have hc := h.stage.certifies hs
  have ha := hc.analyzed (by decide)
  obtain ⟨-, -, -, -, hec, -, -, htotal⟩ :=
    blockRom_bounds ha.version.1 ha.version.2 s.config.ecl
  have hrem := remRom_lt ha.version.1 ha.version.2
  set b := blockRom s.version s.config.ecl with hb
  set f := finalCodewords b (s.readBuf .dcw (dataBytes b)) with hf
  have hlen : f.length = totalCodewords b :=
    finalCodewords_length b _ hec (Memory.readBlock_length _ _ _ _)
  have hmem : (Machine.interleave s).mem = Memory.store s.mem 0x5000 f := rfl
  have hfinal : (Machine.interleave s).finalLen.toNat = totalCodewords b := by
    show (BitVec.ofNat 12 f.length).toNat = _
    rw [hlen, toNat_ofNat_of_lt htotal]
  have hbits : (Machine.interleave s).streamBits.toNat =
      8 * (Machine.interleave s).finalLen.toNat + remRom s.version := by
    rw [hfinal, ← hlen]
    exact toNat_ofNat_of_lt (show 8 * f.length + remRom s.version < 2 ^ 16 by omega)
  refine ⟨h.memory.store hmem fun a h1 h2 => ?_, h.matrix.store hmem rfl (by omega),
    h.cache.cacheGenerator rfl, Certifies.stageInv (g := .interleaved) ⟨fun _ => ha.congr rfl ?_,
      fun _ => (hc.encoded (by decide)).congr rfl ?_, fun _ => ⟨hfinal, hbits, fun i hi => ?_⟩,
      fun h => absurd h (by decide), nofun, fun h => absurd h (by decide), hc.penalties,
      nofun⟩ rfl⟩
  · exact .inr (.inr (.inl (by omega)))
  · rw [hmem]
    exact .store _ (.inl (by omega))
  · rw [hmem]
    exact .store _ (.inl (by omega))
  · rw [hmem]
    exact get?_store_ne_none (by omega)

/-! ## The matrix -/

/-- The invariant after MX_GEOMETRY (R300-R308). -/
theorem DataInv.buildGeometry {s : State} (h : DataInv s) (hs : s.status.stage = .interleaved) :
    DataInv (buildGeometry s) := by
  have hc := h.stage.certifies hs
  have ha := hc.analyzed (by decide)
  obtain ⟨h1, h40⟩ := ha.version
  have h256 : sideOf s.version ≤ 256 := (sideOf_le h40).trans (by decide)
  have hsq := geometryGrid_square s.version
  have hmem : (Machine.buildGeometry s).mem =
      Memory.storeRows (Memory.clearMatrix s.mem) 0 (geometryGrid s.version) := by
    simp [Machine.buildGeometry]
  have hn : (Machine.buildGeometry s).mxn = sideOf s.version := by simp [Machine.buildGeometry]
  have hv : (Machine.buildGeometry s).version = s.version := by
    simp [Machine.buildGeometry, State.version]
  have hstage : (Machine.buildGeometry s).status.stage = .geometry := by
    simp [Machine.buildGeometry]
  have hagree : ∀ {lo hi}, hi ≤ 0x10000 →
      Memory.Agree lo hi s.mem (Machine.buildGeometry s).mem := fun hle => by
    rw [hmem]
    exact (Memory.Agree.clearMatrix _ hle).trans (.storeRows _ _ hle)
  have hcells : ∀ r < sideOf s.version, ∀ c < sideOf s.version,
      cellAt (Machine.buildGeometry s) r c = geometryCell s.version r c := fun r hr c hc => by
    rw [cellAt_storeRows hsq h256 hmem hr hc, geometryGrid_get h1 h40 hr hc]
  let cleared : State := { s with mem := Memory.clearMatrix s.mem, mxn := sideOf s.version }
  have hclear : MemInv cleared := h.memory.clearMatrix rfl
  have hclearM : MatrixInv cleared :=
    .clearMatrix h.memory rfl (.inr ⟨s.version, h1, h40, rfl⟩)
  have hM : MemInv (Machine.buildGeometry s) := hclear.storeRows hmem hsq h256
  refine ⟨hM, hclearM.storeRows hM hmem hn hsq (fun r hr c hc => ?_) h256,
    h.cache.congr (by simp [Machine.buildGeometry]), Certifies.stageInv (g := .geometry)
      ⟨fun _ => ha.congr (by simp [analysisRegs, Machine.buildGeometry]) (hagree (by omega)),
      fun _ => (hc.encoded (by decide)).congr (by simp [Machine.buildGeometry])
        (hagree (by omega)),
      fun _ => (hc.interleaved (by decide)).congr (by simp [Machine.buildGeometry])
        (hagree (by omega)),
      fun _ => ⟨by rw [hn, hv], ?_⟩, fun _ => ?_, fun h => absurd h (by decide), ?_, nofun⟩
      hstage⟩
  · rw [geometryGrid_get h1 h40 hr hc]
    exact geometryCell_proper
  · rw [hn, hv]
    intro r hr c hc
    rw [hcells r hr c hc, geometryCell_func]
  · unfold GeometryCells
    rw [hn, hv]
    exact hcells
  · unfold PenaltiesAdd
    simpa [PenaltiesAdd, Machine.buildGeometry] using hc.penalties

/-- `t` is `s` with the grid `g` in its matrix, which keeps the function cells of the
geometry and gives every cell a colour: what the phases after the geometry do. -/
structure RewritesMatrix (s t : State) (g : Grid) : Prop where
  mem : t.mem = Memory.storeRows s.mem 0 g
  cache : t.genCache = s.genCache
  regs : (analysisRegs t, t.mxn, t.dcwLen, t.finalLen, t.streamBits) =
    (analysisRegs s, s.mxn, s.dcwLen, s.finalLen, s.streamBits)
  square : g.Square (sideOf s.version)
  func : ∀ r < sideOf s.version, ∀ c < sideOf s.version,
    (g.get r c).func = (geometryColour s.version r c).isSome
  resolved : ∀ r < sideOf s.version, ∀ c < sideOf s.version, (g.get r c).state ≠ .unset

theorem DataInv.rewritesMatrix {s t : State} {g : Grid} {before after : Stage} (h : DataInv s)
    (step : RewritesMatrix s t g) (hs : s.status.stage = before) (hbefore : 4 ≤ before.toNat)
    (ht : t.status.stage = after) (hafter : 5 ≤ after.toNat) (hpen : PenaltiesAdd t)
    (hfmt : after = .checksummed → FormatKept t) : DataInv t := by
  have hc := h.stage.certifies hs
  have ha := hc.analyzed (by rintro rfl; exact absurd hbefore (by decide))
  have hside : s.mxn = sideOf s.version := (hc.built hbefore).side
  have h256 : sideOf s.version ≤ 256 := (sideOf_le ha.version.2).trans (by decide)
  have hregs := step.regs
  simp only [analysisRegs, Prod.mk.injEq] at hregs
  obtain ⟨⟨hver, hcfg, hlen, hcount, hcap, hg1, hg2, hmode, hreq⟩, hn, hdcw, hfinal, hbits⟩ := hregs
  have hv : t.version = s.version := by rw [State.version, hver]; rfl
  have hagree : ∀ {lo hi}, hi ≤ 0x10000 → Memory.Agree lo hi s.mem t.mem := fun hle => by
    rw [step.mem]
    exact .storeRows _ _ hle
  have hcell : ∀ r < sideOf s.version, ∀ c < sideOf s.version, cellAt t r c = g.get r c :=
    fun r hr c hc => cellAt_storeRows step.square h256 step.mem hr hc
  have hM : MemInv t := h.memory.storeRows step.mem step.square h256
  refine ⟨hM, h.matrix.storeRows hM step.mem hn (hside ▸ step.square)
    (hside ▸ fun r hr c hc _ => step.resolved r hr c hc) (hside ▸ h256), h.cache.congr step.cache,
    Certifies.stageInv (g := after) ⟨fun _ => ha.congr (congrArg Prod.fst step.regs)
      (hagree (by omega)), fun _ => (hc.encoded (by omega)).congr (by rw [hver, hcfg, hdcw])
      (hagree (by omega)), fun _ => (hc.interleaved (by omega)).congr
      (by rw [hver, hcfg, hfinal, hbits]) (hagree (by omega)),
      fun _ => ⟨by rw [hn, hside, hv], ?_⟩, ?_, fun _ => ?_, hpen, hfmt⟩ ht⟩
  · rw [hn, hside, hv]
    intro r hr c hc
    rw [hcell r hr c hc, step.func r hr c hc]
  · rintro rfl
    exact absurd hafter (by decide)
  · unfold CellsResolved
    rw [hn, hside]
    intro r hr c hc
    rw [hcell r hr c hc]
    exact step.resolved r hr c hc

section
variable {s : State} (hb : MatrixBuilt s)
include hb

/-- The grid that a phase reads has the geometry's function cells. -/
theorem MatrixBuilt.readGrid_func {r c : Nat} (hr : r < sideOf s.version)
    (hc : c < sideOf s.version) : ((s.readGrid (sideOf s.version)).get r c).func =
      (geometryColour s.version r c).isSome := by
  rw [← cellAt_eq_readGrid s hr hc]
  exact hb.functions r (hb.side ▸ hr) c (hb.side ▸ hc)

theorem CellsResolved.readGrid {r c : Nat} (h : CellsResolved s) (hr : r < sideOf s.version)
    (hc : c < sideOf s.version) :
    ((s.readGrid (sideOf s.version)).get r c).state ≠ .unset := by
  rw [← cellAt_eq_readGrid s hr hc]
  exact h r (hb.side ▸ hr) c (hb.side ▸ hc)

end

/-- The invariant after MX_PLACE (R320-R323): an open cell lies outside column 6, so it is
visited. -/
theorem DataInv.placeData {s : State} (h : DataInv s) (hs : s.status.stage = .geometry) :
    DataInv (placeData s) := by
  have hc := h.stage.certifies hs
  have hb := hc.built (by decide)
  obtain ⟨h1, h40⟩ := (hc.analyzed (by decide)).version
  have h256 : sideOf s.version ≤ 256 := (sideOf_le h40).trans (by decide)
  obtain ⟨hsq, hget⟩ := placeBits_get (placementOrder (sideOf s.version))
    (streamOf (s.readBuf .final s.finalLen.toNat) s.streamBits.toNat) 0
    (s.readGrid_square (sideOf s.version))
  have hproper := h.matrix.readGrid_proper h256
  refine h.rewritesMatrix (after := .placed) ⟨by simp [Machine.placeData],
    by simp [Machine.placeData], by simp [Machine.placeData, analysisRegs], hsq,
    fun r hr c hc => ?_, fun r hr c hc => ?_⟩ hs (by decide) (by simp [Machine.placeData])
    (by decide) (by simpa [Machine.placeData, PenaltiesAdd] using hc.penalties) nofun
  · rw [← hb.readGrid_func hr hc]
    obtain ⟨hsame, -⟩ | ⟨hf, hf', -⟩ := hget r hr c hc
    · rw [hsame]
    · rw [hf, hf']
  · obtain ⟨hsame, hvisited⟩ | ⟨-, -, hres⟩ := hget r hr c hc
    · rw [hsame]
      by_cases hf : ((s.readGrid (sideOf s.version)).get r c).func = true
      · exact hproper r hr c hc hf
      · have h6 : c ≠ 6 := by
          rintro rfl
          exact hf ((hb.readGrid_func hr hc).trans (geometryColour_column6 h1 h40))
        have hopen := hvisited (mem_placementOrder hr hc h6)
        simpa [MCell.isOpen, hf] using hopen
    · exact hres

/-- The invariant after MX_MASK (R340-R351): masking changes colours of data cells only. -/
theorem DataInv.maskMatrix {s : State} (lanes : Nat) (h : DataInv s)
    (hs : s.status.stage = .placed) : DataInv (maskMatrix lanes s) := by
  have hc := h.stage.certifies hs
  have hb := hc.built (by decide)
  have hres := hc.resolved (by decide)
  have hsq := s.readGrid_square (sideOf s.version)
  let best := bestMask ((scoresOf lanes (sideOf s.version)
    (s.readGrid (sideOf s.version))).map Score.total)
  refine h.rewritesMatrix (after := .masked) (g := applyMask best (s.readGrid (sideOf s.version)))
    ⟨by simp [Machine.maskMatrix, best], by simp [Machine.maskMatrix],
    by simp [Machine.maskMatrix, analysisRegs],
    applyMask_square hsq _, fun r hr c hc => ?_, fun r hr c hc => ?_⟩ hs (by decide)
    (by simp [Machine.maskMatrix]) (by decide) (fun k => ?_) nofun
  · rw [applyMask_get hsq _ hr hc, maskCell_func, hb.readGrid_func hr hc]
  · rw [applyMask_get hsq _ hr hc]
    exact maskCell_resolved _ _ _ fun _ => hres.readGrid hb hr hc
  · simp [Machine.maskMatrix, Score.row, Score.total, BitVec.ofNat_add]

theorem formatInfo_lt (e : BitVec 2) (m : BitVec 3) : formatInfo e m.toNat < 2 ^ 15 := by
  have table : ∀ (e : BitVec 2) (m : BitVec 3), formatInfo e m.toNat < 2 ^ 15 := by decide
  exact table e m

/-- MX_CHECKSUM writes function cells of the geometry only (R365, R366). -/
theorem geometryColour_of_mem_checksumWrites {v fmt ver : Nat} (h1 : 1 ≤ v) (h40 : v ≤ 40)
    {w : FSet} (h : w ∈ checksumWrites v fmt ver) : (geometryColour v w.row w.col).isSome := by
  obtain h | h := List.mem_append.mp h
  · rw [geometryColour_format h1 h40 (mem_formatWrites (by unfold sideOf; omega) h).1]
    rfl
  · split at h
    · next h7 =>
      rw [geometryColour_version h1 h40 h7 (mem_versionWrites (by unfold sideOf; omega) h).1]
      rfl
    · simp at h

/-- The invariant after MX_CHECKSUM (R364-R367). -/
theorem DataInv.writeChecksums {s : State} (h : DataInv s) (hs : s.status.stage = .masked) :
    DataInv (writeChecksums s) := by
  have hc := h.stage.certifies hs
  have hb := hc.built (by decide)
  have hres := hc.resolved (by decide)
  obtain ⟨h1, h40⟩ := (hc.analyzed (by decide)).version
  have hsq := s.readGrid_square (sideOf s.version)
  let ws := checksumWrites s.version (formatInfo s.config.ecl s.maskSel.toNat)
    (versionInfo s.version)
  refine h.rewritesMatrix (after := .checksummed)
    (g := ws.foldl Grid.fset (s.readGrid (sideOf s.version)))
    ⟨by simp [Machine.writeChecksums, ws], by simp [Machine.writeChecksums], by simp [Machine.writeChecksums, analysisRegs],
    hsq.foldl_fset _, fun r hr c hc => ?_, fun r hr c hc => ?_⟩ hs (by decide)
    (by simp [Machine.writeChecksums]) (by decide)
    (by simpa [Machine.writeChecksums, PenaltiesAdd] using hc.penalties) fun _ => ?_
  · obtain ⟨w, hw, rfl, rfl, hget⟩ | ⟨-, hget⟩ := hsq.get_foldl_fset ws hr hc
    · rw [hget, geometryColour_of_mem_checksumWrites h1 h40 hw]
      rfl
    · rw [hget, hb.readGrid_func hr hc]
  · obtain ⟨w, -, -, -, hget⟩ | ⟨-, hget⟩ := hsq.get_foldl_fset ws hr hc
    · rw [hget]
      exact w.cell_resolved
    · rw [hget]
      exact hres.readGrid hb hr hc
  · simp only [FormatKept, Machine.writeChecksums, State.setStage_config, State.writeGrid_config,
      State.setStage_maskSel, State.writeGrid_maskSel]
    exact toNat_ofNat_of_lt (formatInfo_lt s.config.ecl s.maskSel)

/-! ## Commands and steps -/

/-- ENCODE_QR runs the phases one after the other (R391). -/
theorem DataInv.pipelineTail {s : State} (h : DataInv s) (hs : s.status.stage = .analyzed)
    (p : List Byte) : DataInv (pipelineTail p s) :=
  have h2 := h.encodeData hs p
  have h3 := h2.interleave rfl
  have h4 := h3.buildGeometry rfl
  have h5 := h4.placeData (by rw [(buildGeometry_moves _).2.2]; rfl)
  have h6 := h5.maskMatrix Config.maskLanes rfl
  h6.writeChecksums rfl

theorem DataInv.rsBuffer {s : State} {g : Region} {bytes : List Byte} {cache : List GenEntry}
    (r : Word) (draws : Nat) (h : DataInv s)
    (size : g = .gen ∧ bytes.length ≤ 33 ∨ g = .rsout ∧ bytes.length ≤ 32)
    (cached : cache = s.genCache ∨ ∃ n, cache = cacheGenerator n s.genCache) :
    DataInv { (s.writeBuf g bytes).setResult r with genCache := cache, draws := draws } := by
  have hrange : (g.base = 0x1200 ∧ bytes.length ≤ 33) ∨ (g.base = 0x1100 ∧ bytes.length ≤ 32) :=
    size.imp (fun ⟨hg, hl⟩ => ⟨by rw [hg]; rfl, hl⟩) fun ⟨hg, hl⟩ => ⟨by rw [hg]; rfl, hl⟩
  refine ⟨h.memory.store rfl fun a h1 h2 => ?_, h.matrix.store rfl rfl (by omega), ?_,
    h.stage.congr rfl (.store _ (.inr (by omega)))⟩
  · unfold storable
    omega
  · obtain rfl | ⟨n, rfl⟩ := cached
    · exact h.cache.congr rfl
    · exact h.cache.cacheGenerator rfl

/-- Every successful rule keeps the invariant. -/
theorem DataInv.ruleEffect {s u : State} (h : DataInv s) (hu : RuleEffect s u) : DataInv u := by
  cases hu with
  | keep => exact h
  | result r => exact h.congr rfl rfl rfl
  | rsBuffer g bytes r cache draws size cached => exact h.rsBuffer r draws size cached
  | classify => exact h.writeClass.drawn
  | analyze v hsel => exact (h.writeAnalysis hsel).drawn
  | encodeData hs => exact (h.encodeData hs _).drawn
  | interleave hs => exact (h.interleave hs).drawn
  | geometry hs => exact h.buildGeometry hs
  | place hs => exact (h.placeData hs).drawn
  | mask hs => exact h.maskMatrix _ hs
  | checksum hs => exact h.writeChecksums hs
  | encodeQr v hsel => exact ((h.writeAnalysis hsel).pipelineTail rfl _).drawn

/-- An error leaves everything but STATUS, ERRINFO and the draws alone, and STAGE where it
was or IDLE (R411). -/
theorem DataInv.fail {s : State} (h : DataInv s) (i : Instr) (e : ErrCode) :
    DataInv (s.fail i e) := by
  refine ⟨h.memory.congr rfl, h.matrix.congr rfl rfl, h.cache.congr rfl, ?_⟩
  cases hi : errorToIdle i with
  | true => exact .of_idle (by simp [hi]) h.stage.penalties
  | false => exact h.stage.congr (by simp [stageRegs, hi]) (.refl _ _ _)

theorem DataInv.exec {i : Instr} {s t : State} (h : DataInv s) (ht : exec i s = .next t) :
    DataInv t := by
  obtain ⟨u, hu, rfl⟩ | ⟨e, -, rfl⟩ := exec_cases ht
  · exact (h.ruleEffect hu).complete
  · exact h.fail i e

theorem CoreInv.data {s : State} (h : CoreInv s) : DataInv s :=
  ⟨h.memory, h.matrix, h.cache, h.stage⟩

theorem CoreInv.step {s t : State} (h : CoreInv s) (ht : Machine.step s = .next t) :
    CoreInv t := by
  have hstatus := h.status.step ht
  obtain ⟨turn, i, hi⟩ | rfl := h.status.step_cases ht
  · have hd := h.data.exec hi
    have high : t.rstN = true := (exec_control hi).1.trans ((State.coreTurn_iff s).mp turn).1
    exact ⟨hstatus, .of_high high, hd.memory, hd.matrix, hd.cache, hd.stage⟩
  · exact ⟨hstatus, ResetInv.hostKeeps.hostTurn h.reset, MemInv.hostKeeps.hostTurn h.memory,
      MatrixInv.hostKeeps.hostTurn h.matrix, CacheInv.hostKeeps.hostTurn h.cache,
      StageInv.hostKeeps.hostTurn h.stage⟩

end Sys2Proof.Safety
end

section

open Sys2Proof.Safety

/-- Settles O57: a command keeps the invariant phase by phase, each phase establishing what
the next stage certifies, and the host's cycle is made of changes that keep each part. -/
theorem stepKeepsCoreInvariant : Obligations.StepKeepsCoreInvariant :=
  fun _ _ h ht => h.step ht

end

section
/-! SUPPORT. Two runs of a command or of a step: what the generator cache and the operand
bits that a rule does not name can change (10_state.md R39, R60). -/

namespace Sys2Proof.Machine

/-! ## Changes that a command carries along -/

theorem exceptMap_map {ε α β γ : Type} (x : Except ε α) (f : α → β) (g : β → γ) :
    (x.map f).map g = x.map fun a => g (f a) := by
  cases x <;> rfl

/-- A command carries a change `f` of its state along: if the rule on `f s` is the rule on
`s` changed by `f'`, so is the whole command, or it fails on both. -/
theorem exec_carries {i : Instr} {s : State} {f f' : State → State}
    (rule : ruleOf i (f s) = (ruleOf i s).map f') (complete : ∀ u, (f' u).complete = f' u.complete)
    (fail : ∀ e, (f s).fail i e = f (s.fail i e)) :
    ∃ t, exec i s = .next t ∧ (exec i (f s) = .next (f' t) ∨ exec i (f s) = .next (f t)) := by
  rw [exec_eq_runCommand, exec_eq_runCommand]
  cases hr : ruleOf i s with
  | ok u =>
    refine ⟨_, runCommand_ok hr, .inl ?_⟩
    rw [runCommand_ok (u := f' u) (by rw [rule, hr]; rfl), complete]
  | error e =>
    refine ⟨_, runCommand_error hr, .inr ?_⟩
    rw [runCommand_error (e := e) (by rw [rule, hr]; rfl), fail]

/-- A single-stage rule carries a change along that leaves STAGE alone. -/
theorem inStage_carries {g : Stage} {rule : State → State} {s : State} {f f' : State → State}
    (hs : (f s).status.stage = s.status.stage) (hf : rule (f s) = f' (rule s)) :
    inStage g rule (f s) = (inStage g rule s).map f' := by
  unfold inStage
  rw [hs, hf]
  split <;> rfl

/-! ## The operand registers -/

/-- `s` with other operand words. -/
def State.withOperands (x y : Word) (s : State) : State := { s with opa := x, opb := y }

section
variable (x y : Word) (s : State)

theorem writeAnalysis_withOperands (a : Analysis) (v : Nat) :
    writeAnalysis a v (s.withOperands x y) = (writeAnalysis a v s).withOperands x y := rfl
theorem encodeData_withOperands (p : List Byte) :
    encodeData p (s.withOperands x y) = (encodeData p s).withOperands x y := rfl
theorem interleave_withOperands :
    interleave (s.withOperands x y) = (interleave s).withOperands x y := rfl
theorem buildGeometry_withOperands :
    buildGeometry (s.withOperands x y) = (buildGeometry s).withOperands x y := by
  simp only [buildGeometry, State.withOperands, State.setStage, State.writeGrid, State.version]
theorem placeData_withOperands :
    placeData (s.withOperands x y) = (placeData s).withOperands x y := rfl
theorem maskMatrix_withOperands (lanes : Nat) :
    maskMatrix lanes (s.withOperands x y) = (maskMatrix lanes s).withOperands x y := rfl
theorem writeChecksums_withOperands :
    writeChecksums (s.withOperands x y) = (writeChecksums s).withOperands x y := rfl

theorem pipelineTail_withOperands (p : List Byte) :
    pipelineTail p (s.withOperands x y) = (pipelineTail p s).withOperands x y := by
  simp only [pipelineTail, encodeData_withOperands, interleave_withOperands,
    buildGeometry_withOperands, placeData_withOperands, maskMatrix_withOperands,
    writeChecksums_withOperands]

/-- A rule that reads no operand register carries other operand words along. -/
theorem ruleOf_withOperands {i : Instr}
    (hi : i ∉ [.gfAdd, .gfMul, .gfDiv, .gfPow, .gfExp, .gfLog, .bchFormat, .bchVersion]) :
    ruleOf i (s.withOperands x y) = (ruleOf i s).map (State.withOperands x y) := by
  cases i
  case gfAdd | gfMul | gfDiv | gfPow | gfExp | gfLog | bchFormat | bchVersion =>
    exact absurd (by decide) hi
  case nop => rfl
  case rsGenpoly | rsEncode | rsRemainder | rsSyndrome =>
    simp only [ruleOf, exceptMap_map]
    rfl
  case classify =>
    simp only [ruleOf]
    rw [show tooLong (s.withOperands x y) = tooLong s from rfl]
    split <;> rfl
  case analyze =>
    simp only [ruleOf, exceptMap_map]
    rfl
  case encodeQr =>
    simp only [ruleOf, exceptMap_map, writeAnalysis_withOperands, pipelineTail_withOperands]
    rfl
  all_goals
    simp only [ruleOf]
    refine inStage_carries (f := State.withOperands x y) (s := s) rfl ?_
  case encodeData => exact congrArg State.drawn (encodeData_withOperands x y s s.payload)
  case interleave => exact congrArg State.drawn (interleave_withOperands x y s)
  case mxGeometry => exact buildGeometry_withOperands x y s
  case mxPlace => exact congrArg State.drawn (placeData_withOperands x y s)
  case mxMask => exact maskMatrix_withOperands x y s _
  case mxChecksum => exact writeChecksums_withOperands x y s

end

/-- A command carries other operand words along if its rule does. -/
theorem exec_withOperands {i : Instr} {s : State} {x y : Word}
    (rule : ruleOf i (s.withOperands x y) = (ruleOf i s).map (State.withOperands x y)) :
    ∃ t, exec i s = .next t ∧ exec i (s.withOperands x y) = .next (t.withOperands x y) := by
  obtain ⟨t, ht, h⟩ := exec_carries rule (fun _ => rfl) (fun _ => rfl)
  exact ⟨t, ht, h.elim id id⟩

/-! ## The generator cache -/

/-- `s` with another cache. -/
def State.withCache (cache : List GenEntry) (s : State) : State := { s with genCache := cache }

/-- What a function does to all but the cache does not depend on the cache. -/
def CacheBlind (f : State → State) : Prop :=
  ∀ s cache, ∃ cache', f (s.withCache cache) = (f s).withCache cache'

theorem CacheBlind.comp {f g : State → State} (hg : CacheBlind g) (hf : CacheBlind f) :
    CacheBlind fun s => g (f s) := fun s cache => by
  obtain ⟨c, hc⟩ := hf s cache
  obtain ⟨c', hc'⟩ := hg (f s) c
  exact ⟨c', (congrArg g hc).trans hc'⟩

theorem drawn_cacheBlind : CacheBlind State.drawn := fun _ cache => ⟨cache, rfl⟩
theorem writeAnalysis_cacheBlind (a : Analysis) (v : Nat) : CacheBlind (writeAnalysis a v) :=
  fun _ cache => ⟨cache, rfl⟩
theorem encodeData_cacheBlind (p : List Byte) : CacheBlind (encodeData p) :=
  fun _ cache => ⟨cache, rfl⟩
theorem interleave_cacheBlind : CacheBlind interleave := fun s cache =>
  ⟨cacheGenerator (blockRom s.version s.config.ecl).ec cache, rfl⟩
theorem buildGeometry_cacheBlind : CacheBlind buildGeometry := fun _ cache => ⟨cache, by
  simp only [buildGeometry, State.withCache, State.setStage, State.writeGrid, State.version]⟩
theorem placeData_cacheBlind : CacheBlind placeData := fun _ cache => ⟨cache, rfl⟩
theorem maskMatrix_cacheBlind (lanes : Nat) : CacheBlind (maskMatrix lanes) :=
  fun _ cache => ⟨cache, rfl⟩
theorem writeChecksums_cacheBlind : CacheBlind writeChecksums := fun _ cache => ⟨cache, rfl⟩

theorem pipelineTail_cacheBlind (p : List Byte) : CacheBlind (pipelineTail p) :=
  writeChecksums_cacheBlind.comp <| (maskMatrix_cacheBlind _).comp <| placeData_cacheBlind.comp <|
    buildGeometry_cacheBlind.comp <| interleave_cacheBlind.comp <| encodeData_cacheBlind p

/-- A single-stage rule carries another cache along if its writes do. -/
theorem CacheBlind.inStage {rule : State → State} (h : CacheBlind rule) (g : Stage) (s : State)
    (cache : List GenEntry) : ∃ cache',
      inStage g rule (s.withCache cache) = (inStage g rule s).map (State.withCache cache') := by
  obtain ⟨cache', hc⟩ := h s cache
  exact ⟨cache', inStage_carries rfl hc⟩

/-- Every rule carries another cache along: none reads it (R60). -/
theorem ruleOf_withCache (i : Instr) (s : State) (cache : List GenEntry) : ∃ cache',
    ruleOf i (s.withCache cache) = (ruleOf i s).map (State.withCache cache') := by
  cases i
  case nop | gfAdd | gfMul | gfPow | gfExp | bchFormat | bchVersion => exact ⟨cache, rfl⟩
  case gfDiv | gfLog => exact ⟨cache, by simp only [ruleOf, exceptMap_map]; rfl⟩
  case rsSyndrome => exact ⟨cache, by simp only [ruleOf, exceptMap_map]; rfl⟩
  case rsGenpoly | rsEncode | rsRemainder =>
    exact ⟨cacheGenerator s.rsN cache, by simp only [ruleOf, exceptMap_map]; rfl⟩
  case classify =>
    refine ⟨cache, ?_⟩
    simp only [ruleOf]
    rw [show tooLong (s.withCache cache) = tooLong s from rfl]
    split <;> rfl
  case analyze => exact ⟨cache, by simp only [ruleOf, exceptMap_map]; rfl⟩
  case encodeQr =>
    simp only [ruleOf]
    rw [show selectVersion (s.withCache cache) = selectVersion s from rfl]
    cases selectVersion s with
    | error e => exact ⟨cache, rfl⟩
    | ok r =>
      obtain ⟨c, hc⟩ := drawn_cacheBlind.comp ((pipelineTail_cacheBlind r.1).comp
        (writeAnalysis_cacheBlind r.2.1 r.2.2)) s cache
      exact ⟨c, congrArg Except.ok hc⟩
  case encodeData =>
    exact (drawn_cacheBlind.comp (f := fun s => encodeData s.payload s)
      fun s => encodeData_cacheBlind s.payload s).inStage ..
  case interleave => exact (drawn_cacheBlind.comp interleave_cacheBlind).inStage ..
  case mxGeometry => exact buildGeometry_cacheBlind.inStage ..
  case mxPlace => exact (drawn_cacheBlind.comp placeData_cacheBlind).inStage ..
  case mxMask => exact (maskMatrix_cacheBlind _).inStage ..
  case mxChecksum => exact writeChecksums_cacheBlind.inStage ..

theorem exec_withCache (i : Instr) (s : State) (cache : List GenEntry) : ∃ t cache',
    exec i s = .next t ∧ exec i (s.withCache cache) = .next (t.withCache cache') := by
  obtain ⟨cache', rule⟩ := ruleOf_withCache i s cache
  obtain ⟨t, ht, h | h⟩ := exec_carries rule (fun _ => rfl) (fun _ => rfl)
  · exact ⟨t, cache', ht, h⟩
  · exact ⟨t, cache, ht, h⟩

/-- A write to a register carries another cache along; a reset empties it (R452). -/
theorem writeReg_withCache (s : State) (cache : List GenEntry) (a : Nat) (w : Word) :
    ∃ cache', (s.withCache cache).writeReg a w =
      (s.writeReg a w).map (State.withCache cache') := by
  unfold State.writeReg
  split
  case h_1 =>
    unfold State.writeCtrl
    split
    · exact ⟨[], rfl⟩
    · exact ⟨cache, rfl⟩
  case h_2 =>
    unfold State.writeCmd
    split <;> exact ⟨cache, rfl⟩
  all_goals exact ⟨cache, rfl⟩

theorem writeLocation_withCache (s : State) (cache : List GenEntry) (a : Nat)
    (size : AccessSize) (w : Word) : ∃ cache', (s.withCache cache).writeLocation a size w =
      (s.writeLocation a size w).map (State.withCache cache') := by
  unfold State.writeLocation
  split
  · exact writeReg_withCache s cache a w
  all_goals exact ⟨cache, rfl⟩

theorem writeAccepted_withCache (s : State) (cache : List GenEntry) (a : Nat)
    (size : AccessSize) (w : Word) : ∃ cache', (s.withCache cache).writeAccepted a size w =
      (s.writeAccepted a size w).map (State.withCache cache') := by
  have hcond : (s.withCache cache).writeAccepted a size w =
      if s.rstN = false || badForm a size || (s.status.busy && a != 0x004) then none
      else (s.withCache cache).writeLocation a size w := rfl
  rw [hcond, State.writeAccepted]
  split
  · exact ⟨cache, rfl⟩
  · exact writeLocation_withCache s cache a size w

theorem hostEvent_cacheBlind (e : HostEvent) : CacheBlind (State.hostEvent · e) := by
  intro s cache
  match e with
  | .idle => exact ⟨cache, rfl⟩
  | .access (.read a size) => exact ⟨cache, rfl⟩
  | .rstN true => exact ⟨cache, rfl⟩
  | .rstN false => exact ⟨[], rfl⟩
  | .access (.write a size w) =>
    obtain ⟨cache', h⟩ := writeAccepted_withCache s cache a.toNat size w
    simp only [State.hostEvent, State.perform, h]
    cases s.writeAccepted a.toNat size w with
    | none => exact ⟨cache, rfl⟩
    | some t => exact ⟨cache', rfl⟩

/-- The host's cycle carries another cache along. -/
theorem hostTurn_cacheBlind : CacheBlind State.hostTurn := fun s cache => by
  cases hi : s.inbox with
  | nil => exact ⟨cache, by
    rw [State.hostTurn_nil (s := s.withCache cache) hi, State.hostTurn_nil hi]
    rfl⟩
  | cons e rest =>
    rw [State.hostTurn_cons (s := s.withCache cache) hi, State.hostTurn_cons hi]
    exact hostEvent_cacheBlind e ({ s.tick with inbox := rest } : State) cache

/-- A step carries another cache along. -/
theorem step_withCache (s : State) (cache : List GenEntry) : ∃ t cache',
    step s = .next t ∧ step (s.withCache cache) = .next (t.withCache cache') := by
  cases hturn : s.coreTurn with
  | false =>
    obtain ⟨cache', h⟩ := hostTurn_cacheBlind s cache
    refine ⟨s.hostTurn, cache', step_host hturn, ?_⟩
    rw [step_host (s := s.withCache cache) hturn, h]
  | true =>
    cases hd : decode s.cmd with
    | some i =>
      obtain ⟨t, cache', ht, h⟩ := exec_withCache i s cache
      exact ⟨t, cache', (step_exec hturn hd).trans ht,
        (step_exec (s := s.withCache cache) hturn hd).trans h⟩
    | none =>
      refine ⟨s.rejectCommand s.cmd, cache, ?_, ?_⟩
      · simp only [step, hturn, if_true, State.runIssued, hd]
      · have hturn' : (s.withCache cache).coreTurn = true := hturn
        have hd' : decode (s.withCache cache).cmd = none := hd
        simp only [step, hturn', if_true, State.runIssued, hd']
        rfl

end Sys2Proof.Machine
end

section

open Sys2Proof Sys2Proof.Machine

/-- Settles O25: the GF and BCH rules read the named operand fields only, and every other
rule reads no operand register. -/
theorem unnamedOperandBitsAreIgnored : Obligations.UnnamedOperandBitsAreIgnored := by
  intro i s x y hx hy
  refine exec_withOperands (x := x) (y := y) ?_
  cases i
  case gfAdd | gfMul | gfPow =>
    have ha : (s.withOperands x y).opA8 = s.opA8 := hx
    have hb : (s.withOperands x y).opB8 = s.opB8 := hy
    rw [ruleOf, ruleOf, ha, hb]
    rfl
  case gfDiv =>
    have ha : (s.withOperands x y).opA8 = s.opA8 := hx
    have hb : (s.withOperands x y).opB8 = s.opB8 := hy
    rw [ruleOf, ruleOf, ha, hb, exceptMap_map]
    rfl
  case gfLog =>
    have ha : (s.withOperands x y).opA8 = s.opA8 := hx
    rw [ruleOf, ruleOf, ha, exceptMap_map]
    rfl
  case gfExp =>
    have ha : (s.withOperands x y).opA9 = s.opA9 := hx
    rw [ruleOf, ruleOf, ha]
    rfl
  case bchFormat =>
    have ha : (s.withOperands x y).opA2 = s.opA2 := hx
    have hb : (s.withOperands x y).opB3 = s.opB3 := hy
    rw [ruleOf, ruleOf, ha, hb]
    rfl
  case bchVersion =>
    have ha : (s.withOperands x y).opA6 = s.opA6 := hx
    rw [ruleOf, ruleOf, ha]
    rfl
  all_goals exact ruleOf_withOperands x y s (by decide)

end

section

open Sys2Proof Sys2Proof.Machine Sys2Proof.Safety

/-- Settles O58: no rule and no access reads the generator cache. -/
theorem generatorCacheIsInvisible : Obligations.GeneratorCacheIsInvisible := by
  intro s cache
  obtain ⟨t, cache', ht, hu⟩ := step_withCache s cache
  exact ⟨t, _, ht, hu, rfl⟩

end

section
/-! SUPPORT. The registers as the host reads them (10_state.md R31), and the rows of the
version tables (R42-R44). -/

namespace Sys2Proof.Machine

open Sys2Proof.Reference Sys2Proof.Safety

/-! ## Words made of fields -/

theorem toNat_append_add {m n : Nat} (x : BitVec m) (y : BitVec n) :
    (x ++ y).toNat = x.toNat * 2 ^ n + y.toNat := by
  rw [BitVec.toNat_append, ← Nat.shiftLeft_add_eq_or_of_lt y.isLt, Nat.shiftLeft_eq]

theorem eq_ofNat_of_toNat {x : Word} {n : Nat} (h : x.toNat = n) : x = BitVec.ofNat 32 n := by
  rw [← h, BitVec.ofNat_toNat, BitVec.setWidth_eq]

@[simp] theorem flagBit_toNat (b : Bool) : (flagBit b).toNat = b.toNat := BitVec.toNat_ofBool b

theorem Stage.toNat_eq_stageNumber (g : Stage) :
    (BitVec.ofNat 4 g.toNat).toNat = stageNumber g := by cases g <;> rfl

theorem ErrCode.toNat_eq_errCodeNumber (e : ErrCode) :
    (BitVec.ofNat 4 e.toNat).toNat = errCodeNumber e := by cases e <;> rfl

theorem Status.word_toNat (s : Status) : s.word.toNat =
    s.busy.toNat + 2 * s.done.toNat + 4 * s.err.toNat + 8 * s.errSticky.toNat +
      2 ^ 8 * errCodeNumber s.errCode + 2 ^ 16 * stageNumber s.stage := by
  simp only [Status.word, toNat_append_add, flagBit_toNat, Stage.toNat_eq_stageNumber,
    ErrCode.toNat_eq_errCodeNumber, BitVec.toNat_zero, BitVec.ofNat_eq_ofNat]
  omega

theorem ErrInfo.word_toNat (e : ErrInfo) : e.word.toNat =
    e.opcode.toNat + 2 ^ 8 * e.ecl.toNat + 2 ^ 10 * e.band.toNat +
      2 ^ 20 * stageNumber e.stage := by
  simp only [ErrInfo.word, toNat_append_add, Stage.toNat_eq_stageNumber, BitVec.toNat_zero,
    BitVec.ofNat_eq_ofNat]
  omega

theorem CfgReg.word_toNat (c : CfgReg) :
    c.word.toNat = c.ecl.toNat + 4 * c.band.toNat + 16 * c.minver.toNat := by
  simp only [CfgReg.word, toNat_append_add, BitVec.toNat_zero, BitVec.ofNat_eq_ofNat]
  omega

theorem RsCfgReg.word_toNat (c : RsCfgReg) : c.word.toNat = c.k.toNat + 2 ^ 16 * c.n.toNat := by
  simp only [RsCfgReg.word, toNat_append_add, BitVec.toNat_zero, BitVec.ofNat_eq_ofNat]
  omega

theorem ArModeReg.word_toNat (m : ArModeReg) :
    m.word.toNat = m.mode.toNat + 16 * m.eci.toNat := by
  simp only [ArModeReg.word, toNat_append_add, flagBit_toNat, BitVec.toNat_zero,
    BitVec.ofNat_eq_ofNat]
  omega

theorem ArVersionReg.word_toNat (v : ArVersionReg) :
    v.word.toNat = v.version.toNat + 2 ^ 8 * v.side.toNat := by
  simp only [ArVersionReg.word, toNat_append_add, BitVec.toNat_zero, BitVec.ofNat_eq_ofNat]
  omega

theorem BlkG1Reg.word_toNat (b : BlkG1Reg) :
    b.word.toNat = b.count.toNat + 2 ^ 8 * b.data.toNat + 2 ^ 16 * b.ec.toNat := by
  simp only [BlkG1Reg.word, toNat_append_add, BitVec.toNat_zero, BitVec.ofNat_eq_ofNat]
  omega

theorem BlkG2Reg.word_toNat (b : BlkG2Reg) :
    b.word.toNat = b.count.toNat + 2 ^ 8 * b.data.toNat := by
  simp only [BlkG2Reg.word, toNat_append_add, BitVec.toNat_zero, BitVec.ofNat_eq_ofNat]
  omega

theorem State.ctrlWord_toNat (s : State) : s.ctrlWord.toNat = s.ctrlIE.toNat := by
  simp only [State.ctrlWord, toNat_append_add, flagBit_toNat, BitVec.toNat_zero,
    BitVec.ofNat_eq_ofNat]
  omega

/-! ## The register map -/

/-- From offset 0x080 on the map holds the penalties only (R31). -/
theorem State.readReg_of_ge (s : State) {a : Nat} (h : 0x080 ≤ a) : s.readReg a =
    if 0x080 ≤ a ∧ a < 0x0A0 ∧ a % 4 = 0 then s.penalty[(a - 0x080) / 4]?
    else if 0x100 ≤ a ∧ a < 0x180 ∧ a % 4 = 0 then
      (s.penRule[(a - 0x100) / 16]?).bind (fun row => row[(a - 0x100) % 16 / 4]?)
    else none := by
  unfold State.readReg
  split
  case h_27 => rfl
  all_goals omega

theorem State.readReg_penalty (s : State) (k : Fin 8) :
    s.readReg (0x080 + 4 * k.val) = some s.penalty[k] := by
  rw [s.readReg_of_ge (by omega), if_pos (by omega),
    show (0x080 + 4 * k.val - 0x080) / 4 = k.val by omega]
  exact Vector.getElem?_eq_getElem k.isLt

theorem State.readReg_penRule (s : State) (k : Fin 8) (j : Fin 4) :
    s.readReg (0x100 + 16 * k.val + 4 * j.val) = some s.penRule[k][j] := by
  rw [s.readReg_of_ge (by omega), if_neg (by omega), if_pos (by omega),
    show (0x100 + 16 * k.val + 4 * j.val - 0x100) / 16 = k.val by omega,
    show (0x100 + 16 * k.val + 4 * j.val - 0x100) % 16 / 4 = j.val by omega,
    Vector.getElem?_eq_getElem k.isLt, Option.bind_some]
  exact Vector.getElem?_eq_getElem j.isLt

/-- The host reads the number `n` at the register offset `a` (R31). -/
def State.ReadsAs (s : State) (a n : Nat) : Prop :=
  a < 512 ∧ a % 4 = 0 ∧ s.readReg a = some (BitVec.ofNat 32 n)

theorem State.ReadsAs.of_word {s : State} {a n : Nat} {w : Word} (hn : w.toNat = n)
    (ha : a < 512 ∧ a % 4 = 0) (hr : s.readReg a = some w) : s.ReadsAs a n :=
  ⟨ha.1, ha.2, hr.trans (congrArg some (eq_ofNat_of_toNat hn))⟩

/-- A register of one narrow field. -/
theorem State.ReadsAs.of_field {s : State} {a k : Nat} {x : BitVec k} (hk : k ≤ 32)
    (ha : a < 512 ∧ a % 4 = 0) (hr : s.readReg a = some (x.setWidth 32)) :
    s.ReadsAs a x.toNat :=
  .of_word (BitVec.toNat_setWidth_of_le hk) ha hr

/-- A register read of the idle core gives the register's word (R105). -/
theorem State.readAnswer_register {s : State} {a : Nat} {w : Word} (high : s.rstN = true)
    (idle : s.status.busy = false) (ha : a < 512) (haligned : a % 4 = 0)
    (h : s.readReg a = some w) : s.readAnswer a .four = .read .okay w := by
  have hform : badForm a .four = false := (badForm_eq_false_iff a .four).mpr ⟨haligned, fun _ => rfl⟩
  have hloc : s.readLocation a .four = some w := by
    rw [State.readLocation, (regionOf_registers a).mpr ha]
    exact h
  simp [State.readAnswer, hform, hloc, high, idle]

/-- A read by the host of the idle core: the answer, and nothing else (R108). -/
theorem step_read {s : State} {a : Offset} {size : AccessSize} {rest : List HostEvent}
    (idle : s.status.busy = false) (hin : s.inbox = .access (.read a size) :: rest) :
    step s = .next { answered s rest (s.readAnswer a.toNat size) with draws := s.draws + 1 } := by
  have turn : s.coreTurn = false := by simp [State.coreTurn, idle]
  have htick : s.tick = s := by simp [State.tick, idle]
  rw [step_host turn, State.hostTurn_cons hin, htick]
  rfl

/-! ## The rows of the version tables -/

/-- R42 (c): a second group has one data byte more per block than the first, an absent
one none. -/
theorem blockRom_secondGroup {v : Nat} (h1 : 1 ≤ v) (h40 : v ≤ 40) (e : BitVec 2) :
    (blockRom v e).data2 =
      if (blockRom v e).count2 = 0 then 0 else (blockRom v e).data1 + 1 := by
  have table : ∀ u < 41, 1 ≤ u → ∀ e : BitVec 2, (blockRom u e).data2 =
      if (blockRom u e).count2 = 0 then 0 else (blockRom u e).data1 + 1 := by decide +kernel
  exact table v (by omega) h1 e

/-- R42 (d): the data bytes fall from level L to level H. -/
theorem dataBytes_falls {v : Nat} (h1 : 1 ≤ v) (h40 : v ≤ 40) :
    dataBytes (blockRom v 1) < dataBytes (blockRom v 0) ∧
    dataBytes (blockRom v 2) < dataBytes (blockRom v 1) ∧
    dataBytes (blockRom v 3) < dataBytes (blockRom v 2) := by
  have table : ∀ u < 41, 1 ≤ u → dataBytes (blockRom u 1) < dataBytes (blockRom u 0) ∧
      dataBytes (blockRom u 2) < dataBytes (blockRom u 1) ∧
      dataBytes (blockRom u 3) < dataBytes (blockRom u 2) := by decide +kernel
  exact table v (by omega) h1

/-- R43: the alignment coordinates start with 6 and end with 4·v + 10. -/
theorem alignRom_ends {v : Nat} (h2 : 2 ≤ v) (h40 : v ≤ 40) :
    (alignRom v).head? = some 6 ∧ (alignRom v).getLast? = some (4 * v + 10) := by
  have table : ∀ u < 41, 2 ≤ u →
      (alignRom u).head? = some 6 ∧ (alignRom u).getLast? = some (4 * u + 10) := by decide +kernel
  exact table v (by omega) h2

end Sys2Proof.Machine
end

section

open Sys2Proof.Machine

/-- Settles O14: each register's word is its fields at their bits, and a read of the idle
core answers that word. -/
theorem registerReadsShowTheirFields : Obligations.RegisterReadsShowTheirFields := by
  intro s high idle
  suffices h : ∀ p : Nat × Nat, p ∈ _ → s.ReadsAs p.1 p.2 by
    intro p hp
    obtain ⟨hlt, haligned, hreg⟩ := h p hp
    have hanswer := State.readAnswer_register high idle hlt haligned hreg
    refine ⟨hanswer, fun rest hin => ?_⟩
    have haddr : (BitVec.ofNat 18 p.1).toNat = p.1 :=
      BitVec.toNat_ofNat .. ▸ Nat.mod_eq_of_lt (by omega)
    rw [step_read idle hin, haddr, hanswer]
  rw [List.forall_mem_append, List.forall_mem_append]
  refine ⟨⟨?_, ?_⟩, ?_⟩
  · simp only [List.forall_mem_cons]
    exact ⟨.of_word rfl (by decide) rfl, .of_word s.ctrlWord_toNat (by decide) rfl,
      .of_word rfl (by decide) rfl, .of_word s.status.word_toNat (by decide) rfl,
      .of_word s.errInfo.word_toNat (by decide) rfl,
      .of_word s.config.word_toNat (by decide) rfl,
      .of_field (by decide) (by decide) rfl, .of_word rfl (by decide) rfl,
      .of_word rfl (by decide) rfl, .of_word rfl (by decide) rfl,
      .of_word s.rsCfg.word_toNat (by decide) rfl, .of_word s.arMode.word_toNat (by decide) rfl,
      .of_field (by decide) (by decide) rfl, .of_field (by decide) (by decide) rfl,
      .of_word s.arVersion.word_toNat (by decide) rfl, .of_field (by decide) (by decide) rfl,
      .of_field (by decide) (by decide) rfl, .of_field (by decide) (by decide) rfl,
      .of_field (by decide) (by decide) rfl, .of_field (by decide) (by decide) rfl,
      .of_word s.blkG1.word_toNat (by decide) rfl, .of_word s.blkG2.word_toNat (by decide) rfl,
      .of_field (by decide) (by decide) rfl, .of_field (by decide) (by decide) rfl,
      .of_field (by decide) (by decide) rfl, .of_field (by decide) (by decide) rfl, nofun⟩
  · intro p hp
    obtain ⟨k, -, rfl⟩ := List.mem_map.mp hp
    exact .of_word rfl (by dsimp only; omega) (s.readReg_penalty k)
  · intro p hp
    obtain ⟨k, -, hp⟩ := List.mem_flatMap.mp hp
    obtain ⟨j, -, rfl⟩ := List.mem_map.mp hp
    exact .of_word rfl (by dsimp only; omega) (s.readReg_penRule k j)

/-- Settles O60: each clause is a fact about the rows of one table. -/
theorem romRowsSatisfyInvariants : Obligations.RomRowsSatisfyInvariants := fun v h1 h40 =>
  ⟨blockRom_secondGroup h1 h40, dataBytes_falls h1 h40, by rintro rfl; rfl,
    fun h2 => alignRom_ends h2 h40, remRom_lt h1 h40⟩

end

section
/-! SUPPORT. The host's accesses (20_memory.md): which offsets answer, what a refused or
an accepted access does, and what a write followed by a read shows. -/

namespace Sys2Proof.Machine

open Sys2Proof.Safety

/-! ## The mapped offsets -/

/-- Every offset of the window lies in a region or is unmapped (R113). -/
theorem exists_regionOf {a : Nat} (h : ¬ unmapped a) : ∃ g, regionOf a = some g := by
  rw [← Option.ne_none_iff_exists', ne_eq, regionOf_eq_none_iff]
  intro hno
  have hregs := hno .registers
  have hrsdata := hno .rsdata
  have hrsout := hno .rsout
  have hgen := hno .gen
  have hpayload := hno .payload
  have hdcw := hno .dcw
  have hfinal := hno .final
  have hmatrix := hno .matrix
  simp only [Region.base, Region.size, Config.payloadBuf, Config.matrixStride, unmapped] at *
  omega

/-- An unmapped offset lies in no region but the registers' (R113). -/
theorem regionOf_of_unmapped {a : Nat} {g : Region} (h : unmapped a) (hg : regionOf a = some g) :
    g = .registers := by
  rw [regionOf_eq_some_iff] at hg
  cases g
  case registers => rfl
  all_goals
    simp only [Region.base, Region.size, Config.payloadBuf, Config.matrixStride, unmapped] at hg h
    omega

/-- At an aligned offset of the register window a register is missing exactly where R31
lists none. -/
theorem State.readReg_eq_none_iff (s : State) {a : Nat} (hlt : a < 0x200) (aligned : a % 4 = 0) :
    s.readReg a = none ↔ unmapped a := by
  unfold unmapped State.readReg
  split
  case h_27 =>
    split_ifs with hpenalty hrule
    · rw [Vector.getElem?_eq_none_iff]
      omega
    · rw [Vector.getElem?_eq_getElem (by omega), Option.bind_some, Vector.getElem?_eq_none_iff]
      omega
    · refine iff_of_true rfl ?_
      simp only [imp_false] at *
      omega
  all_goals simp

theorem State.readLocation_eq_none_iff (s : State) {a : Nat} {size : AccessSize}
    (good : goodForm a size) : s.readLocation a size = none ↔ unmapped a := by
  obtain ⟨aligned, word⟩ := good
  unfold State.readLocation
  split
  · next hr =>
    refine iff_of_true rfl (by_contra fun h => ?_)
    obtain ⟨g, hg⟩ := exists_regionOf h
    exact nomatch hr.symm.trans hg
  · next hr =>
    have hlt := (regionOf_registers a).mp hr
    rw [word hlt] at aligned
    exact s.readReg_eq_none_iff hlt aligned
  · next g hg hr =>
    exact iff_of_false nofun fun h => hg (regionOf_of_unmapped h hr)

/-! ## The answers to reads -/

theorem State.readAnswer_eq_read (s : State) (a : Nat) (size : AccessSize) :
    ∃ code rdata, s.readAnswer a size = .read code rdata := by
  unfold State.readAnswer
  split
  · exact ⟨_, _, rfl⟩
  · split
    · exact ⟨_, _, rfl⟩
    · dsimp only
      split_ifs <;> exact ⟨_, _, rfl⟩

/-- A refused form or an unmapped offset reads 0 with ERROR, whatever the core does (R102,
R104, R107). -/
theorem State.readAnswer_refused (s : State) {a : Nat} {size : AccessSize}
    (h : ¬ goodForm a size ∨ unmapped a) : s.readAnswer a size = .read .error 0 := by
  unfold State.readAnswer
  split
  · rfl
  · next hform =>
    have good := (badForm_eq_false_iff a size).mp (Bool.eq_false_iff.mpr hform)
    rw [(s.readLocation_eq_none_iff good).mpr (h.resolve_left (not_not_intro good))]

/-- The answer to a read of a mapped location out of reset: its content, or a free value
while BUSY = 1 (R105, R110). -/
theorem State.readAnswer_located {s : State} {a : Nat} {size : AccessSize} {w : Word}
    (high : s.rstN = true) (good : goodForm a size) (h : s.readLocation a size = some w) :
    s.readAnswer a size = .read .okay (if s.status.busy && !readableWhileBusy a then
      lowBytes size (Config.freeWord s.draws a) else w) := by
  simp only [State.readAnswer, (badForm_eq_false_iff a size).mpr good, h, high,
    Bool.false_eq_true, Bool.true_eq_false, if_false]
  split <;> rfl

theorem State.readAnswer_mapped {s : State} {a : Nat} {size : AccessSize} (high : s.rstN = true)
    (good : goodForm a size) (h : ¬ unmapped a) : ∃ w, s.readAnswer a size = .read .okay w := by
  rw [← s.readLocation_eq_none_iff good, ← ne_eq, Option.ne_none_iff_exists'] at h
  obtain ⟨w, hw⟩ := h
  exact ⟨_, readAnswer_located high good hw⟩

/-- ID, CTRL, CMD and STATUS show their word, busy or not (R110). -/
theorem State.readAnswer_control {s : State} {a : Nat} {w : Word} (high : s.rstN = true)
    (control : readableWhileBusy a = true) (ha : a < 0x200 ∧ a % 4 = 0)
    (h : s.readReg a = some w) : s.readAnswer a .four = .read .okay w := by
  obtain ⟨hlt, aligned⟩ := ha
  have hloc : s.readLocation a .four = some w := by
    rw [State.readLocation, (regionOf_registers a).mpr hlt]
    exact h
  rw [readAnswer_located high ⟨aligned, fun _ => rfl⟩ hloc]
  simp [control]

/-- A read of the idle core in a buffer or the matrix window gives its bytes (R105). -/
theorem State.readAnswer_window {s : State} {a : Nat} {size : AccessSize} (high : s.rstN = true)
    (idle : s.status.busy = false) (good : goodForm a size) (ha : 0x200 ≤ a)
    (mapped : ¬ unmapped a) :
    s.readAnswer a size = .read .okay (s.hostBytes a size.bytes) := by
  obtain ⟨g, hg⟩ := exists_regionOf mapped
  have hne : g ≠ .registers := by
    rintro rfl
    exact absurd ((regionOf_registers a).mp hg) (by omega)
  have hloc : s.readLocation a size = some (s.hostBytes a size.bytes) := by
    unfold State.readLocation
    rw [hg]
    cases g
    case registers => exact absurd rfl hne
    all_goals rfl
  rw [readAnswer_located high good hloc, idle]
  rfl

/-! ## The writes that are accepted -/

/-- Refused writes: a bad form, an unmapped offset, a read-only location (R102-R107). -/
theorem State.writeAccepted_refused (s : State) {a : Nat} {size : AccessSize} (w : Word)
    (h : ¬ goodForm a size ∨ unmapped a ∨ readOnly a) : s.writeAccepted a size w = none := by
  by_contra hne
  obtain ⟨t, ht⟩ := Option.ne_none_iff_exists'.mp hne
  obtain ⟨-, hform, -, hwrite⟩ := State.writeAccepted_cases ht
  have good := (badForm_eq_false_iff a size).mp hform
  replace h := h.resolve_left (not_not_intro good)
  unfold unmapped readOnly at h
  obtain ⟨-, hreg⟩ | ⟨hr, -⟩ | ⟨hr, -⟩ := hwrite
  · obtain ⟨rfl, -⟩ | ⟨rfl, -⟩ | ⟨rfl, -⟩ | ⟨rfl, -⟩ | ⟨rfl, -⟩ | ⟨rfl, -⟩ | ⟨rfl, -⟩ |
      ⟨rfl, -⟩ := State.writeReg_cases hreg <;> omega
  all_goals
    rw [regionOf_eq_some_iff] at hr
    simp only [Region.base, Region.size, Config.payloadBuf] at hr
    omega

/-- A write of a good form to the idle core acts on its location. -/
theorem State.writeAccepted_idle {s : State} {a : Nat} {size : AccessSize} (w : Word)
    (high : s.rstN = true) (idle : s.status.busy = false) (good : goodForm a size) :
    s.writeAccepted a size w = s.writeLocation a size w := by
  simp [State.writeAccepted, high, idle, (badForm_eq_false_iff a size).mpr good]

/-- A write to RSDATA or PAYLOAD stores its bytes; one to PAYLOAD sets STAGE to IDLE (R461). -/
theorem State.writeLocation_buffer (s : State) {a : Nat} (size : AccessSize) (w : Word)
    (h : (0x01000 ≤ a ∧ a < 0x01100) ∨ (0x02000 ≤ a ∧ a < 0x04000)) :
    s.writeLocation a size w = some { s with
      mem := Memory.store s.mem a (writeBytes size w)
      status := if a < 0x02000 then s.status else { s.status with stage := .idle } } := by
  unfold State.writeLocation
  obtain hrs | hpay := h
  · rw [(regionOf_eq_some_iff a .rsdata).mpr hrs, if_pos (by omega)]
  · rw [(regionOf_eq_some_iff a .payload).mpr hpay, if_neg (by omega)]
    rfl

/-! ## The host's cycle -/

theorem State.coreTurn_of_idle {s : State} (idle : s.status.busy = false) :
    s.coreTurn = false := by
  simp [State.coreTurn, idle]

theorem State.coreTurn_of_waiting {s : State} (wait : s.wait ≠ 0) : s.coreTurn = false := by
  simp [State.coreTurn, wait]

theorem State.tick_of_idle {s : State} (idle : s.status.busy = false) : s.tick = s := by
  simp [State.tick, idle]

/-- A read in the host's cycle, busy or not: the answer, and nothing else (R108). -/
theorem step_readTurn {s : State} {a : Offset} {size : AccessSize} {rest : List HostEvent}
    (turn : s.coreTurn = false) (hin : s.inbox = .access (.read a size) :: rest) :
    step s = .next { answered s rest (s.readAnswer a.toNat size) with
      wait := s.tick.wait, draws := s.draws + 1 } := by
  rw [step_host turn, State.hostTurn_cons hin]
  rfl

/-- A write to the idle core: the write takes effect, or it is refused. -/
theorem step_write {s : State} {a : Offset} {size : AccessSize} {w : Word}
    {rest : List HostEvent} (idle : s.status.busy = false)
    (hin : s.inbox = .access (.write a size w) :: rest) :
    step s = .next (({ s with inbox := rest } : State).perform (.write a size w)) := by
  rw [step_host (State.coreTurn_of_idle idle), State.hostTurn_cons hin, State.tick_of_idle idle]
  rfl

theorem State.perform_write_accepted {s t : State} {a : Offset} {size : AccessSize} {w : Word}
    (h : s.writeAccepted a.toNat size w = some t) :
    s.perform (.write a size w) = t.answer (.write .okay) := by
  simp only [State.perform, h]

theorem State.perform_write_refused {s : State} {a : Offset} {size : AccessSize} {w : Word}
    (h : s.writeAccepted a.toNat size w = none) :
    s.perform (.write a size w) = s.answer (.write .error) := by
  simp only [State.perform, h]

/-- A refused write to the idle core does nothing but answer ERROR. -/
theorem step_write_refused {s : State} {a : Offset} {size : AccessSize} {w : Word}
    {rest : List HostEvent} (idle : s.status.busy = false)
    (hin : s.inbox = .access (.write a size w) :: rest)
    (h : ¬ goodForm a.toNat size ∨ unmapped a.toNat ∨ readOnly a.toNat) :
    step s = .next (answered s rest (.write .error)) := by
  rw [step_write idle hin, State.perform_write_refused (State.writeAccepted_refused _ w h)]
  rfl

/-- A write of a good form to the idle core takes effect where its location accepts it. -/
theorem step_write_accepted {s t : State} {a : Offset} {size : AccessSize} {w : Word}
    {rest : List HostEvent} (host : idleWith s (.access (.write a size w)) rest)
    (good : goodForm a.toNat size)
    (h : ({ s with inbox := rest } : State).writeLocation a.toNat size w = some t) :
    step s = .next (t.answer (.write .okay)) := by
  obtain ⟨high, idle, hin⟩ := host
  have hw := (State.writeAccepted_idle (s := { s with inbox := rest }) w high idle good).trans h
  rw [step_write idle hin, State.perform_write_accepted hw]

/-- A word written to a register of the idle core. -/
theorem step_writeReg {s t : State} {a : Offset} {w : Word} {rest : List HostEvent}
    (host : idleWith s (.access (.write a .four w)) rest)
    (ha : a.toNat < 0x200 ∧ a.toNat % 4 = 0)
    (h : ({ s with inbox := rest } : State).writeReg a.toNat w = some t) :
    step s = .next (t.answer (.write .okay)) := by
  obtain ⟨hlt, aligned⟩ := ha
  refine step_write_accepted host ⟨aligned, fun _ => rfl⟩ ?_
  rw [State.writeLocation, (regionOf_registers _).mpr hlt]
  exact h

/-- A register written and read back by the host of the idle core. -/
theorem run_writeThenRead {s t : State} {a : Offset} {w v : Word} {rest : List HostEvent}
    (host : idleWith s (.access (.write a .four w)) (.access (.read a .four) :: rest))
    (ha : a.toNat < 0x200 ∧ a.toNat % 4 = 0)
    (write : ({ s with inbox := .access (.read a .four) :: rest } : State).writeReg a.toNat w =
      some t)
    (host' : idleWith t (.access (.read a .four)) rest) (log : t.outbox = s.outbox)
    (read : t.readReg a.toNat = some v) :
    ∃ u, Host.Core.run Sys2Proof.core 2 s = .next u ∧
      u.outbox = .read .okay v :: .write .okay :: s.outbox := by
  obtain ⟨high, idle, hin⟩ := host'
  have first : Sys2Proof.core.step s = .next (t.answer (.write .okay)) := step_writeReg host ha write
  have answer := State.readAnswer_register (s := t.answer (.write .okay)) high idle ha.1 ha.2 read
  have second : Sys2Proof.core.step (t.answer (.write .okay)) = _ :=
    step_read (s := t.answer (.write .okay)) idle hin
  refine ⟨_, by simp only [Host.Core.run, first, second]; rfl, ?_⟩
  rw [answer, ← log]
  rfl

/-! ## The bytes of an access -/

/-- A slot always has a content (R301). -/
theorem Memory.get?_matrix (m : Memory) (draw : Nat) {a : Nat} (h : 0x10000 ≤ a)
    (h' : a < 0x20000) : Memory.get? m a = some (Memory.read m draw a) := by
  rw [Memory.read_eq, Memory.get?_eq, Memory.unlisted_matrix h h']
  cases Memory.entry? m a <;> rfl

/-- Byte k of a write is bits [8k+7:8k] of its data (R101). -/
theorem writeBytes_getElem? {size : AccessSize} (w : Word) {k : Nat} (hk : k < size.bytes) :
    (writeBytes size w)[k]? = some (w.extractLsb' (8 * k) 8) := by
  cases size <;> simp only [AccessSize.bytes] at hk <;> interval_cases k <;> rfl

/-- Byte k of the data of a read is the content of offset a + k (R101). -/
theorem State.hostBytes_extract (s : State) (a : Nat) {size : AccessSize} {k : Nat}
    (hk : k < size.bytes) :
    (s.hostBytes a size.bytes).extractLsb' (8 * k) 8 = s.hostByte (a + k) := by
  cases size
  case one =>
    obtain rfl : k = 0 := Nat.lt_one_iff.mp hk
    exact (BitVec.extractLsb'_setWidth_of_le (by decide)).trans BitVec.extractLsb'_eq_self
  case two =>
    replace hk : k < 2 := hk
    refine (BitVec.extractLsb'_setWidth_of_le (by omega)).trans ?_
    interval_cases k
    · exact BitVec.extractLsb'_append_eq_right
    · exact BitVec.extractLsb'_append_eq_left
  case four =>
    replace hk : k < 4 := hk
    interval_cases k
    · exact BitVec.extractLsb'_append_eq_right
    · exact (BitVec.extractLsb'_append_eq_of_le (by decide)).trans
        BitVec.extractLsb'_append_eq_right
    · exact (BitVec.extractLsb'_append_eq_of_le (by decide)).trans <|
        (BitVec.extractLsb'_append_eq_of_le (by decide)).trans BitVec.extractLsb'_append_eq_right
    · exact (BitVec.extractLsb'_append_eq_of_le (by decide)).trans <|
        (BitVec.extractLsb'_append_eq_of_le (by decide)).trans BitVec.extractLsb'_append_eq_left

/-- A read's data is zero-extended (R120). -/
theorem State.hostBytes_getLsbD_of_ge (s : State) (a : Nat) {size : AccessSize} {j : Nat}
    (hj : 8 * size.bytes ≤ j) : (s.hostBytes a size.bytes).getLsbD j = false := by
  cases size
  case four => exact BitVec.getLsbD_of_ge _ j hj
  all_goals
    refine (BitVec.getLsbD_setWidth ..).trans ?_
    exact (congrArg (_ && ·) (BitVec.getLsbD_of_ge _ j hj)).trans (Bool.and_false _)

/-- A byte of a buffer as the host reads it (R105). -/
theorem State.hostByte_buffer (s : State) {a : Nat} (h : a < 0x10000) :
    s.hostByte a = Memory.read s.mem s.draws a := by
  have hout : Region.matrix.holds a = false := by
    rw [Bool.eq_false_iff, ne_eq, Region.holds_iff]
    exact fun hin => absurd hin.1 (Nat.not_le.mpr h)
  rw [State.hostByte, hout]
  rfl

/-- A slot of the matrix window as the host reads it: its content, and 0 outside
MXN × MXN (R53). -/
theorem State.hostByte_slot (s : State) {r c : Nat} (hr : r < 256) (hc : c < 256) :
    some (s.hostByte (0x10000 + 256 * r + c)) =
      if r < s.mxn ∧ c < s.mxn then Memory.get? s.mem (0x10000 + 256 * r + c) else some 0 := by
  have hin : Region.matrix.holds (0x10000 + 256 * r + c) = true := by
    rw [Region.holds_iff]
    simp only [Region.base, Region.size, Config.matrixStride]
    omega
  have hslot : slotOf (0x10000 + 256 * r + c) = (r, c) := by
    simp only [slotOf, Region.base, Config.matrixStride, Prod.mk.injEq]
    omega
  simp only [State.hostByte, State.slotShown, hin, hslot, Bool.true_and, ← Bool.decide_and]
  by_cases hshown : r < s.mxn ∧ c < s.mxn
  · rw [decide_eq_true hshown, if_pos hshown,
      Memory.get?_matrix s.mem s.draws (by omega) (by omega)]
    rfl
  · rw [decide_eq_false hshown, if_neg hshown]
    rfl

/-! ## The words that registers keep -/

theorem State.writeCtrl_of_noReset (s : State) {w : Word} (h : w.getLsbD 1 = false) :
    s.writeCtrl w = { s with ctrlIE := w.getLsbD 0 } := by
  rw [State.writeCtrl, if_neg (Bool.eq_false_iff.mp h)]

/-- CTRL keeps bit 0 of a written word (R32). -/
theorem zeros_append_lowBit (w : Word) : (0 : BitVec 31) ++ flagBit (w.getLsbD 0) = w &&& 1 := by
  refine BitVec.eq_of_getLsbD_eq fun i hi => ?_
  simp only [flagBit, BitVec.getLsbD_append, BitVec.getLsbD_and]
  interval_cases i <;> simp

theorem State.ctrlWord_eq (s : State) : s.ctrlWord = if s.ctrlIE then 1 else 0 := by
  unfold State.ctrlWord
  cases s.ctrlIE <;> rfl

/-- A STATUS write clears DONE and ERRSTICKY where it writes 1 (R34). -/
theorem Status.hostWrite_eq (s : Status) (w : Word) : s.hostWrite w =
    { s with done := if w.getLsbD 1 then false else s.done
             errSticky := if w.getLsbD 3 then false else s.errSticky } := by
  unfold Status.hostWrite
  cases w.getLsbD 1 <;> cases w.getLsbD 3 <;> simp

/-- CONFIG keeps its ten bits of a written word (R31). -/
theorem CfgReg.word_ofWord (w : Word) : (CfgReg.ofWord w).word = w &&& 0x000003FF := by
  refine BitVec.eq_of_getLsbD_eq fun i hi => ?_
  simp only [CfgReg.word, CfgReg.ofWord, BitVec.getLsbD_append, BitVec.getLsbD_extractLsb',
    BitVec.getLsbD_and]
  interval_cases i <;> simp

/-- RS_CFG keeps the bits of K and N of a written word (R31). -/
theorem RsCfgReg.word_ofWord (w : Word) : (RsCfgReg.ofWord w).word = w &&& 0x00FF01FF := by
  refine BitVec.eq_of_getLsbD_eq fun i hi => ?_
  simp only [RsCfgReg.word, RsCfgReg.ofWord, BitVec.getLsbD_append, BitVec.getLsbD_extractLsb',
    BitVec.getLsbD_and]
  interval_cases i <;> simp

/-- PAYLOAD_LEN keeps the low half of a written word (R31). -/
theorem setWidth_extract_low16 (w : Word) :
    (w.extractLsb' 0 16).setWidth 32 = w &&& 0x0000FFFF := by
  refine BitVec.eq_of_getLsbD_eq fun i hi => ?_
  simp only [BitVec.getLsbD_setWidth, BitVec.getLsbD_extractLsb', BitVec.getLsbD_and]
  interval_cases i <;> simp

end Sys2Proof.Machine
end

section

open Sys2Proof Sys2Proof.Machine Sys2Proof.Safety

/-- Settles O5: in a cycle that is not the sequencer's the host acts, and a read only logs
its answer and draws. -/
theorem readsHaveNoSideEffects : Obligations.ReadsHaveNoSideEffects := by
  intro s rest hcycle
  have turn : s.coreTurn = false := by
    rw [Bool.eq_false_iff, ne_eq, State.coreTurn_iff]
    exact fun ⟨high, busy, wait, _⟩ => hcycle ⟨high, busy, wait⟩
  refine ⟨fun a size hin => ?_, fun hin => ?_, fun hin => ?_⟩
  · obtain ⟨code, rdata, hanswer⟩ := s.readAnswer_eq_read a.toNat size
    refine ⟨code, rdata, ?_⟩
    rw [step_readTurn turn hin, hanswer]
    rfl
  · rw [step_host turn, State.hostTurn_cons hin]
    rfl
  · rw [step_host turn, State.hostTurn_nil hin]
    rfl

/-- Settles O11: the control registers show their words, busy or not, and the form and
the offset alone decide the code of every other read. -/
theorem busyReadsShowControlRegisters : Obligations.BusyReadsShowControlRegisters := by
  rintro s a size rest ⟨high, busy, wait, hin⟩
  obtain ⟨code, rdata, hanswer⟩ := s.readAnswer_eq_read a.toNat size
  have hcontrol {n : Nat} {w : Word} (hsize : size = .four) (ha : a.toNat = n)
      (control : readableWhileBusy n = true) (hn : n < 0x200 ∧ n % 4 = 0)
      (hreg : s.readReg n = some w) : rdata = w := by
    rw [hsize, ha, State.readAnswer_control high control hn hreg] at hanswer
    exact (Response.read.inj hanswer).2.symm
  refine ⟨code, rdata, ?step, fun good mapped => ?okay, fun bad => ?error,
    fun hsize ha => ?id, fun hsize ha => ?ctrl, fun hsize ha => ?cmd, fun hsize ha => ?status⟩
  case step =>
    rw [step_readTurn (State.coreTurn_of_waiting wait) hin, hanswer]
    simp [State.tick, busy]
  case okay =>
    obtain ⟨w, hw⟩ := State.readAnswer_mapped high good mapped
    exact (Response.read.inj (hanswer.symm.trans hw)).1
  case error =>
    exact Response.read.inj (hanswer.symm.trans (s.readAnswer_refused bad))
  case id => exact hcontrol hsize (congrArg BitVec.toNat ha) rfl (by decide) rfl
  case ctrl =>
    rw [← s.ctrlWord_eq]
    exact hcontrol hsize (congrArg BitVec.toNat ha) rfl (by decide) rfl
  case cmd => exact hcontrol hsize (congrArg BitVec.toNat ha) rfl (by decide) rfl
  case status =>
    rw [hcontrol hsize (congrArg BitVec.toNat ha) rfl (by decide) rfl]
    refine eq_ofNat_of_toNat ?_
    rw [Status.word_toNat, busy]
    rfl

/-- Settles O12: the form and the offset alone refuse the access. -/
theorem badAccessesAreRefused : Obligations.BadAccessesAreRefused := by
  intro s a size w rest idle hbad
  have refused : ¬ goodForm a.toNat size ∨ unmapped a.toNat := by
    obtain hmis | ⟨hlt, hsub⟩ | hun := hbad
    · exact .inl fun good => hmis good.1
    · exact .inl fun good => hsub (good.2 hlt)
    · exact .inr hun
  refine ⟨fun hin => step_write_refused idle hin (refused.imp_right .inl), fun hin => ?_⟩
  rw [step_read idle hin, s.readAnswer_refused refused]

/-- Settles O13: a read-only location accepts no write, and every register keeps the bits
of its fields. -/
theorem writesRespectAccessRights : Obligations.WritesRespectAccessRights := by
  refine ⟨?readOnly, ?status, ?fields, ?ctrl⟩
  case readOnly =>
    rintro s a size w rest ⟨-, idle, hin⟩ - hro
    exact step_write_refused idle hin (.inr (.inr hro))
  case status =>
    intro s w rest host
    rw [step_writeReg host (by decide) rfl, State.acknowledge, Status.hostWrite_eq]
    rfl
  case fields =>
    intro s w mask a rest hmem host
    have ⟨high, idle, _⟩ := host
    simp only [List.mem_cons, Prod.mk.injEq, List.not_mem_nil, or_false] at hmem
    obtain ⟨rfl, rfl⟩ | ⟨rfl, rfl⟩ | ⟨rfl, rfl⟩ | ⟨rfl, rfl⟩ | ⟨rfl, rfl⟩ := hmem <;>
      refine run_writeThenRead host (by decide) rfl ⟨high, idle, rfl⟩ rfl (congrArg some ?_)
    · exact CfgReg.word_ofWord w
    · exact setWidth_extract_low16 w
    · exact BitVec.and_allOnes.symm
    · exact BitVec.and_allOnes.symm
    · exact RsCfgReg.word_ofWord w
  case ctrl =>
    intro s w rest noReset host
    have ⟨high, idle, _⟩ := host
    exact run_writeThenRead host (by decide)
      (congrArg some (State.writeCtrl_of_noReset _ noReset)) ⟨high, idle, rfl⟩ rfl
      (congrArg some (zeros_append_lowBit w))

/-- Settles O15: a buffer write is a store of the access's bytes. -/
theorem bufferWritesAreLittleEndian : Obligations.BufferWritesAreLittleEndian := by
  intro s a size w rest host good hbuffer
  refine ⟨Memory.store s.mem a.toNat (writeBytes size w), ?step, fun x => ?bytes⟩
  case step =>
    rw [step_write_accepted host good (State.writeLocation_buffer _ size w hbuffer)]
    rfl
  case bytes =>
    rw [Memory.get?_store, writeBytes_length]
    split
    · exact writeBytes_getElem? w (by omega)
    · rfl

/-- Settles O16: a window read answers the bytes of its offsets, and a slot always has a
content. -/
theorem bufferReadsAreLittleEndian : Obligations.BufferReadsAreLittleEndian := by
  rintro s a size rest ⟨high, idle, hin⟩ good hlo mapped
  refine ⟨s.hostBytes a.toNat size.bytes, ?step, fun k hk b hbuf hb => ?buffer,
    fun k hk hmx => ?slot, fun j hj => s.hostBytes_getLsbD_of_ge a.toNat hj⟩
  case step => rw [step_read idle hin, State.readAnswer_window high idle good hlo mapped]
  case buffer =>
    have inside : a.toNat + k < 0x10000 := by
      unfold unmapped at mapped
      cases size <;> simp only [AccessSize.bytes] at hk <;> omega
    rw [s.hostBytes_extract a.toNat hk, s.hostByte_buffer inside, Memory.read_eq, hb,
      Option.getD_some]
  case slot =>
    have row : (a.toNat - 0x10000) / 256 < 256 := by
      unfold unmapped at mapped
      omega
    have column : (a.toNat - 0x10000) % 256 + k < 256 := by
      obtain ⟨aligned, -⟩ := good
      cases size <;> simp only [AccessSize.bytes] at hk aligned <;> omega
    have offset : a.toNat + k = 0x10000 + 256 * ((a.toNat - 0x10000) / 256) +
        ((a.toNat - 0x10000) % 256 + k) := by omega
    rw [s.hostBytes_extract a.toNat hk, offset]
    exact s.hostByte_slot row column

end

section
/-! SUPPORT. The decoder and the encoder (30_encoding.md R141-R145): the fields of a
command word, the opcode map read in both directions, and the bytes of a word in bus
order. -/

namespace Sys2Proof

/-! ## The fields of a command word -/

theorem CommandWord.ofWord_toWord (c : CommandWord) : CommandWord.ofWord c.toWord = c := by
  obtain ⟨op, rsvd⟩ := c
  simp only [CommandWord.ofWord, CommandWord.toWord, CommandWord.mk.injEq]
  exact ⟨BitVec.extractLsb'_append_eq_right, BitVec.extractLsb'_append_eq_left⟩

theorem CommandWord.toWord_ofWord (w : Word) : (CommandWord.ofWord w).toWord = w := by
  exact (BitVec.extractLsb'_append_extractLsb'_eq_extractLsb' rfl).trans
    BitVec.extractLsb'_eq_self

/-- A word is fixed by its two fields (R141). -/
theorem CommandWord.ofWord_eq_iff (w : Word) (c : CommandWord) :
    CommandWord.ofWord w = c ↔ w = c.toWord :=
  ⟨fun h => by rw [← h, toWord_ofWord], fun h => by rw [h, ofWord_toWord]⟩

/-- OPCODE and RSVD of a word as numbers (R141). -/
theorem CommandWord.ofWord_toNat (w : Word) :
    (CommandWord.ofWord w).opcode.toNat = w.toNat % 256 ∧
      (CommandWord.ofWord w).rsvd.toNat = w.toNat / 256 := by
  have := w.isLt
  simp only [CommandWord.ofWord, BitVec.extractLsb'_toNat, Nat.shiftRight_eq_div_pow]
  omega

/-! ## The opcode map -/

theorem decodeOpcode_opcode (i : Instr) : decodeOpcode (opcode i) = some i := by
  cases i <;> rfl

/-- Each row of R142 read back: the map is one-to-one. -/
theorem decodeOpcode_eq_some_iff (op : BitVec 8) (i : Instr) :
    decodeOpcode op = some i ↔ op = opcode i := by
  refine ⟨fun h => ?_, fun h => h ▸ decodeOpcode_opcode i⟩
  unfold decodeOpcode at h
  split at h <;> cases h <;> exact BitVec.eq_of_toNat_eq ‹_›

/-- An opcode is assigned exactly if the map of R142 has a row for it (R144). -/
theorem decodeOpcode_isSome_iff (op : BitVec 8) :
    (decodeOpcode op).isSome = true ↔ op ∈ assignedOpcodes := by
  constructor
  · intro h
    obtain ⟨i, hi⟩ := Option.isSome_iff_exists.mp h
    rw [(decodeOpcode_eq_some_iff op i).mp hi]
    cases i <;> decide
  · exact (by decide : ∀ op ∈ assignedOpcodes, (decodeOpcode op).isSome = true) op

/-- The opcodes without a row are the reserved ones that R144 lists. -/
theorem decodeOpcode_eq_none_iff (op : BitVec 8) :
    decodeOpcode op = none ↔
      (0x07 ≤ op.toNat ∧ op.toNat ≤ 0x0F) ∨ (0x14 ≤ op.toNat ∧ op.toNat ≤ 0x1F) ∨
      (0x22 ≤ op.toNat ∧ op.toNat ≤ 0x2F) ∨ (0x32 ≤ op.toNat ∧ op.toNat ≤ 0x37) ∨
      (0x3A ≤ op.toNat ∧ op.toNat ≤ 0x3F) ∨ (0x44 ≤ op.toNat ∧ op.toNat ≤ 0x4E) ∨
      0x50 ≤ op.toNat := by
  unfold decodeOpcode
  split
  case h_23 =>
    refine iff_of_true rfl ?_
    simp only [imp_false] at *
    omega
  all_goals
    refine iff_of_false nofun ?_
    omega

/-! ## The decoder -/

/-- The test of the opcode is the map's own: a word with RSVD = 0 decodes as its opcode does,
and any other to no command (R141, R144). -/
theorem decode_eq (w : Word) :
    decode w = if (CommandWord.ofWord w).rsvd = 0 then decodeOpcode (CommandWord.ofWord w).opcode
      else none := by
  have assigned := decodeOpcode_isSome_iff (CommandWord.ofWord w).opcode
  simp only [decode, CommandWord.wf, CommandWord.rsvdClear, CommandWord.opcodeAssigned,
    Bool.and_eq_true, beq_iff_eq, List.contains_iff_mem, ← assigned, ite_and]
  split_ifs with hr hs
  · rfl
  · exact (Option.not_isSome_iff_eq_none.mp hs).symm
  · rfl

/-- The encoder is the decoder's inverse (R141, R142). -/
theorem decode_eq_some_iff (w : Word) (i : Instr) : decode w = some i ↔ w = encode i := by
  rw [decode_eq, Option.ite_none_right_eq_some, decodeOpcode_eq_some_iff, encode,
    ← CommandWord.ofWord_eq_iff, CommandWord.mk.injEq, and_comm]

theorem decode_encode (i : Instr) : decode (encode i) = some i := (decode_eq_some_iff _ i).mpr rfl

/-- A word is no command exactly if RSVD or its opcode is reserved (R141, R144). -/
theorem decode_eq_none_iff (w : Word) :
    decode w = none ↔
      (CommandWord.ofWord w).rsvd ≠ 0 ∨ decodeOpcode (CommandWord.ofWord w).opcode = none := by
  rw [decode_eq, ite_eq_right_iff, imp_iff_not_or]

/-! ## The bytes of a word -/

/-- Four bytes make a word exactly if they are its bytes in bus order (R101). -/
theorem wordOfBytes_eq_iff (b0 b1 b2 b3 : Byte) (w : Word) :
    wordOfBytes b0 b1 b2 b3 = w ↔ [b0, b1, b2, b3] =
      [w.extractLsb' 0 8, w.extractLsb' 8 8, w.extractLsb' 16 8, w.extractLsb' 24 8] := by
  have := w.isLt
  simp only [wordOfBytes, List.cons.injEq, and_true, ← BitVec.toNat_inj, Machine.toNat_append_add,
    BitVec.extractLsb'_toNat, Nat.shiftRight_eq_div_pow]
  omega

/-- The decoder reads four bytes and hands back the rest (R145). -/
theorem decodeBytes_eq_some_iff (bs rest : List Byte) (i : Instr) :
    decodeBytes bs = some (i, rest) ↔ bs = encodeBytes i ++ rest := by
  match bs with
  | [] | [_] | [_, _] | [_, _, _] => exact iff_of_false nofun (by simp [encodeBytes])
  | b0 :: b1 :: b2 :: b3 :: tail =>
    calc decodeBytes (b0 :: b1 :: b2 :: b3 :: tail) = some (i, rest)
      _ ↔ decode (wordOfBytes b0 b1 b2 b3) = some i ∧ tail = rest := by simp [decodeBytes]
      _ ↔ [b0, b1, b2, b3] = encodeBytes i ∧ tail = rest := by
        rw [decode_eq_some_iff, wordOfBytes_eq_iff, encodeBytes]
      _ ↔ [b0, b1, b2, b3] ++ tail = encodeBytes i ++ rest :=
        ⟨fun ⟨hword, htail⟩ => by rw [hword, htail], fun h => List.append_inj h rfl⟩

/-- A number of the opcode table decodes as the word that it is. -/
theorem decodeTableWord_eq (n : Nat) : decodeTableWord 32 n = decode (BitVec.ofNat 32 n) := by
  have word : tableWord 32 n = BitVec.ofNat 32 n := BitVec.eq_of_toNat_eq (by simp [tableWord])
  rw [decodeTableWord, decodeBytes, (wordOfBytes_eq_iff ..).mpr rfl, word, Option.map_map]
  exact congrFun Option.map_id _

end Sys2Proof
end

section

open Sys2Proof Sys2Proof.Machine Sys2Proof.Safety

/-- Settles O1: the encoder inverts the decoder on words, and a word is its four bytes. -/
theorem decodeReadsExactlyEncodedWords : Obligations.DecodeReadsExactlyEncodedWords :=
  ⟨decode_eq_some_iff, decodeBytes_eq_some_iff⟩

/-- Settles O2: the two fields of the word say whether it is a command. -/
theorem reservedWordsAreNoCommands : Obligations.ReservedWordsAreNoCommands := by
  intro w
  obtain ⟨hopcode, hrsvd⟩ := CommandWord.ofWord_toNat w
  rw [decode_eq_none_iff, decodeOpcode_eq_none_iff, ne_eq, ← BitVec.toNat_inj, hopcode, hrsvd]
  rfl

/-- Settles O3: each number of the map is the encoded word of its command. -/
theorem opcodeMapWordsDecode : Obligations.OpcodeMapWordsDecode := by
  intro p hp
  have encoded : BitVec.ofNat 32 p.1 = encode p.2 := by
    revert p
    decide
  rw [decodeTableWord_eq, encoded]
  exact ⟨decode_encode p.2, decode_encode p.2⟩

/-- Settles O8: the host's cycle performs the write, and the write of a command issues it. -/
theorem commandWriteIssuesCommand : Obligations.CommandWriteIssuesCommand := by
  intro s w i rest host valid
  have issues : ({ s with inbox := rest } : State).writeCmd w =
      { ({ s with inbox := rest } : State).issue w (s.latencies.headD 0) with
        latencies := s.latencies.tail } := by
    simp only [State.writeCmd, valid]
  rw [step_writeReg host (by decide) (congrArg some issues)]
  rfl

end

section
/-! SUPPORT. The frame of a command: the parts of the state that the tables of
10_state.md R50, R51 and 30_encoding.md R143 name, the commands that write each, and what
every other command leaves alone. -/

namespace Sys2Proof.Safety

open Sys2Proof.Machine

/-! ## The parts of the state -/

/-- The parts of the state that the tables assign to commands (R50, R51, R53). -/
inductive Location where
  /-- The registers that the host writes, CMD, and the port's own fields. -/
  | host
  /-- The RSDATA and PAYLOAD bytes. -/
  | inputs
  /-- RESULT. -/
  | result
  /-- AR_MODE, AR_COUNT and AR_PBITS. -/
  | textClass
  /-- AR_VERSION and what goes with the version: AR_REQBITS, CAP_BITS, BLK_G1, BLK_G2. -/
  | version
  /-- DCW_LEN and the DCW bytes. -/
  | dcw
  /-- FINAL_LEN, STREAM_BITS and the FINAL bytes. -/
  | final
  /-- PLACED_BITS. -/
  | placed
  /-- MASK_SEL, PENALTY and PEN_RULE. -/
  | mask
  /-- FORMAT_BITS and VERSION_BITS. -/
  | checksum
  /-- MXN. -/
  | side
  /-- The matrix slots. -/
  | matrix
  /-- The RSOUT bytes. -/
  | rsout
  /-- The GEN bytes. -/
  | gen

/-- The commands that write a part. -/
def Location.writers : Location → List Instr
  | .host | .inputs => []
  | .result => [.gfAdd, .gfMul, .gfDiv, .gfPow, .gfExp, .gfLog, .rsGenpoly, .rsEncode,
      .rsRemainder, .rsSyndrome, .bchFormat, .bchVersion]
  | .textClass => [.classify, .analyze, .encodeQr]
  | .version => [.analyze, .encodeQr]
  | .dcw => [.encodeData, .encodeQr]
  | .final => [.interleave, .encodeQr]
  | .placed => [.mxPlace, .encodeQr]
  | .mask => [.mxMask, .encodeQr]
  | .checksum => [.mxChecksum, .encodeQr]
  | .side => [.mxGeometry, .encodeQr]
  | .matrix => [.mxGeometry, .mxPlace, .mxMask, .mxChecksum, .encodeQr]
  | .rsout => [.rsEncode, .rsRemainder, .rsSyndrome]
  | .gen => [.rsGenpoly]

/-- The registers of a part are the same in `s` and `t`. -/
def Location.SameRegs (s t : State) : Location → Prop
  | .host => t.ctrlIE = s.ctrlIE ∧ t.cmd = s.cmd ∧ t.config = s.config ∧
      t.payloadLen = s.payloadLen ∧ t.opa = s.opa ∧ t.opb = s.opb ∧ t.rsCfg = s.rsCfg ∧
      t.rstN = s.rstN ∧ t.wait = s.wait ∧ t.latencies = s.latencies ∧ t.inbox = s.inbox ∧
      t.outbox = s.outbox
  | .result => t.result = s.result
  | .textClass => t.arMode = s.arMode ∧ t.arCount = s.arCount ∧ t.arPbits = s.arPbits
  | .version => t.arVersion = s.arVersion ∧ t.arReqbits = s.arReqbits ∧
      t.capBits = s.capBits ∧ t.blkG1 = s.blkG1 ∧ t.blkG2 = s.blkG2
  | .dcw => t.dcwLen = s.dcwLen
  | .final => t.finalLen = s.finalLen ∧ t.streamBits = s.streamBits
  | .placed => t.placedBits = s.placedBits
  | .mask => t.maskSel = s.maskSel ∧ t.penalty = s.penalty ∧ t.penRule = s.penRule
  | .checksum => t.formatBits = s.formatBits ∧ t.versionBits = s.versionBits
  | .side => t.mxn = s.mxn
  | .inputs | .matrix | .rsout | .gen => True

/-- The offsets of a part: its buffer and the unmapped ones after it. -/
def Location.Holds (a : Nat) : Location → Prop
  | .inputs => (0x01000 ≤ a ∧ a < 0x01100) ∨ (0x02000 ≤ a ∧ a < 0x04000)
  | .rsout => 0x01100 ≤ a ∧ a < 0x01200
  | .gen => 0x01200 ≤ a ∧ a < 0x02000
  | .dcw => 0x04000 ≤ a ∧ a < 0x05000
  | .final => 0x05000 ≤ a ∧ a < 0x10000
  | .matrix => 0x10000 ≤ a
  | .host | .result | .textClass | .version | .placed | .mask | .checksum | .side => False

/-- The part `l` is the same in `s` and `t`. -/
structure Location.Same (l : Location) (s t : State) : Prop where
  regs : l.SameRegs s t
  mem : ∀ a, l.Holds a → Memory.get? t.mem a = Memory.get? s.mem a

theorem Location.SameRegs.trans {l : Location} {s t u : State} (h : l.SameRegs s t)
    (h' : l.SameRegs t u) : l.SameRegs s u := by
  cases l <;> simp_all [SameRegs]

theorem Location.Same.trans {l : Location} {s t u : State} (h : l.Same s t) (h' : l.Same t u) :
    l.Same s u :=
  ⟨h.regs.trans h'.regs, fun a ha => (h'.mem a ha).trans (h.mem a ha)⟩

/-- No two parts share an offset. -/
theorem Location.Holds.unique {l w : Location} {a : Nat} (h : l.Holds a) (h' : w.Holds a) :
    l = w := by
  cases l <;> cases w <;> simp [Holds] at h h' ⊢ <;> omega

/-! ## What the writes of a phase leave alone -/

section
variable {l w : Location} {s t : State}

/-- STATUS, ERRINFO, the cache and the draws belong to no part. -/
theorem Location.same_control (l : Location) (s : State) (status : Status) (errInfo : ErrInfo)
    (cache : List GenEntry) (draws : Nat) :
    l.Same s { s with status := status, errInfo := errInfo, genCache := cache, draws := draws } :=
  ⟨by cases l <;> simp [SameRegs], fun _ _ => rfl⟩

/-- A store into the window of part `w` leaves every other part's bytes alone. -/
theorem Location.Same.of_store {base : Nat} {bytes : List Byte} (hl : l ≠ w)
    (regs : l.SameRegs s t) (ht : t.mem = Memory.store s.mem base bytes)
    (inside : ∀ a, base ≤ a → a < base + bytes.length → w.Holds a) : l.Same s t := by
  refine ⟨regs, fun a ha => ?_⟩
  rw [ht, Memory.get?_store, if_neg]
  exact fun ⟨hlo, hhi⟩ => hl (ha.unique (inside a hlo hhi))

/-- What is stored in the matrix window leaves every other part's bytes alone. -/
theorem Location.Same.of_matrix (hl : l ≠ .matrix) (regs : l.SameRegs s t)
    (ht : Memory.Agree 0 0x10000 s.mem t.mem) : l.Same s t :=
  ⟨regs, fun a ha => ht a (Nat.zero_le a) (by_contra fun hhi =>
    hl (ha.unique (w := .matrix) (Nat.not_lt.mp hhi)))⟩

theorem setResult_same (hl : l ≠ .result) (r : Word) : l.Same s (s.setResult r) := by
  refine ⟨?_, fun _ _ => rfl⟩
  cases l
  case result => exact absurd rfl hl
  all_goals simp [Location.SameRegs]

/-- The writes of an RS command (R202-R205) into the window of part `w`, which has room for
the bytes of any degree. -/
theorem rsBuffer_same {g : Region} {bytes : List Byte} (hl : l ≠ w) (hr : l ≠ .result)
    (size : bytes.length ≤ 33) (inside : ∀ a, g.base ≤ a → a < g.base + 33 → w.Holds a)
    (r : Word) (cache : List GenEntry) (draws : Nat) :
    l.Same s { (s.writeBuf g bytes).setResult r with genCache := cache, draws := draws } := by
  refine .of_store (base := g.base) (bytes := bytes) hl ?_ rfl fun a hlo hhi =>
    inside a hlo (by omega)
  cases l
  case result => exact absurd rfl hr
  all_goals simp [Location.SameRegs]

theorem rsoutBuffer_same {bytes : List Byte} (hl : l ≠ .rsout) (hr : l ≠ .result)
    (size : bytes.length ≤ 32) (r : Word) (cache : List GenEntry) (draws : Nat) :
    l.Same s { (s.writeBuf .rsout bytes).setResult r with genCache := cache, draws := draws } :=
  rsBuffer_same (w := .rsout) (g := .rsout) hl hr (by omega)
    (fun _ hlo hhi => ⟨hlo, hhi.trans_le (by decide)⟩) r cache draws

theorem genBuffer_same {bytes : List Byte} (hl : l ≠ .gen) (hr : l ≠ .result)
    (size : bytes.length ≤ 33) (r : Word) (cache : List GenEntry) (draws : Nat) :
    l.Same s { (s.writeBuf .gen bytes).setResult r with genCache := cache, draws := draws } :=
  rsBuffer_same (w := .gen) (g := .gen) hl hr size
    (fun _ hlo hhi => ⟨hlo, hhi.trans_le (by decide)⟩) r cache draws

theorem writeClass_same (hl : l ≠ .textClass) (a : Analysis) : l.Same s (writeClass a s) := by
  refine ⟨?_, fun _ _ => rfl⟩
  cases l
  case textClass => exact absurd rfl hl
  all_goals simp [Location.SameRegs, writeClass]

theorem writeAnalysis_same (hl : l ≠ .textClass) (hv : l ≠ .version) (a : Analysis) (v : Nat) :
    l.Same s (writeAnalysis a v s) := by
  refine ⟨?_, fun _ _ => rfl⟩
  cases l
  case textClass => exact absurd rfl hl
  case version => exact absurd rfl hv
  all_goals simp [Location.SameRegs, writeAnalysis, writeClass]

theorem encodeData_same (hl : l ≠ .dcw) (hv : 1 ≤ s.version ∧ s.version ≤ 40) (p : List Byte) :
    l.Same s (encodeData p s) := by
  obtain ⟨-, -, -, -, -, -, hdata, -⟩ := blockRom_bounds hv.1 hv.2 s.config.ecl
  refine .of_store (base := 0x4000) (bytes := dataCodewords s p) hl ?_ rfl fun a hlo hhi => ?_
  · cases l
    case dcw => exact absurd rfl hl
    all_goals simp [Location.SameRegs, encodeData]
  · rw [dataCodewords_length] at hhi
    exact ⟨hlo, by omega⟩

theorem interleave_same (hl : l ≠ .final) (hv : 1 ≤ s.version ∧ s.version ≤ 40) :
    l.Same s (interleave s) := by
  obtain ⟨-, -, -, -, hec, -, -, htotal⟩ := blockRom_bounds hv.1 hv.2 s.config.ecl
  have hlen := finalCodewords_length (blockRom s.version s.config.ecl)
    (s.readBuf .dcw (dataBytes (blockRom s.version s.config.ecl))) hec
    (Memory.readBlock_length _ _ _ _)
  refine .of_store (base := 0x5000) hl ?_ rfl fun a hlo hhi => ?_
  · cases l
    case final => exact absurd rfl hl
    all_goals simp [Location.SameRegs, interleave]
  · rw [hlen] at hhi
    exact ⟨hlo, by omega⟩

theorem buildGeometry_same (hl : l ≠ .side) (hm : l ≠ .matrix) : l.Same s (buildGeometry s) := by
  refine .of_matrix hm ?_ ?_
  · cases l
    case side => exact absurd rfl hl
    all_goals simp [Location.SameRegs, buildGeometry]
  · simp only [buildGeometry, State.setStage_mem, State.writeGrid_mem]
    exact (Memory.Agree.clearMatrix s.mem (by decide)).trans (.storeRows _ _ (by decide))

theorem placeData_same (hl : l ≠ .placed) (hm : l ≠ .matrix) : l.Same s (placeData s) := by
  refine .of_matrix hm ?_ (.storeRows _ _ (by decide))
  cases l
  case placed => exact absurd rfl hl
  all_goals simp [Location.SameRegs, placeData]

theorem maskMatrix_same (hl : l ≠ .mask) (hm : l ≠ .matrix) (lanes : Nat) :
    l.Same s (maskMatrix lanes s) := by
  refine .of_matrix hm ?_ (.storeRows _ _ (by decide))
  cases l
  case mask => exact absurd rfl hl
  all_goals simp [Location.SameRegs, maskMatrix]

theorem writeChecksums_same (hl : l ≠ .checksum) (hm : l ≠ .matrix) :
    l.Same s (writeChecksums s) := by
  refine .of_matrix hm ?_ (.storeRows _ _ (by decide))
  cases l
  case checksum => exact absurd rfl hl
  all_goals simp [Location.SameRegs, writeChecksums]

end

/-! ## What a command leaves alone -/

/-- A part that a command does not write is none of those that it writes. -/
theorem Location.ne_of_not_writer {i : Instr} {l w : Location} (hi : i ∉ l.writers)
    (hw : i ∈ w.writers) : l ≠ w := fun h => hi (h ▸ hw)

/-- The phases after the analyzer leave alone what ENCODE_QR does not write (R391). -/
theorem pipelineTail_same {l : Location} {s : State} (hi : .encodeQr ∉ l.writers)
    (hv : 1 ≤ s.version ∧ s.version ≤ 40) (p : List Byte) : l.Same s (pipelineTail p s) := by
  have ne {w : Location} (hw : .encodeQr ∈ w.writers) : l ≠ w := Location.ne_of_not_writer hi hw
  have matrix : l ≠ .matrix := ne (by decide)
  have codewords : l.Same s (interleave (encodeData p s)) :=
    (encodeData_same (ne (by decide)) hv p).trans
      (interleave_same (s := encodeData p s) (ne (by decide)) hv)
  exact codewords.trans <| (buildGeometry_same (ne (by decide)) matrix).trans <|
    (placeData_same (ne (by decide)) matrix).trans <|
    (maskMatrix_same (ne (by decide)) matrix _).trans <|
    writeChecksums_same (ne (by decide)) matrix

/-- The rule of a command leaves every part alone that the command does not write. -/
theorem ruleOf_same {i : Instr} {l : Location} {s u : State} (hi : i ∉ l.writers)
    (hv : s.status.stage ≠ .idle → 1 ≤ s.version ∧ s.version ≤ 40)
    (h : ruleOf i s = .ok u) : l.Same s u := by
  have ne {w : Location} (hw : i ∈ w.writers) : l ≠ w := Location.ne_of_not_writer hi hw
  have drawn (t : State) : l.Same t t.drawn := l.same_control t _ _ _ _
  have staged {g : Stage} (hg : g ≠ .idle) (hs : s.status.stage = g) :
      1 ≤ s.version ∧ s.version ≤ 40 := hv (hs ▸ hg)
  cases i
  case nop => cases h; exact l.same_control s _ _ _ _
  case gfAdd | gfMul | gfPow | gfExp | bchFormat | bchVersion =>
    cases h
    exact setResult_same (ne (by decide)) _
  case gfDiv | gfLog =>
    obtain ⟨r, -, rfl⟩ := exceptMap_eq_ok_iff.mp h
    exact setResult_same (ne (by decide)) _
  case rsGenpoly =>
    obtain ⟨_, hc, rfl⟩ := exceptMap_eq_ok_iff.mp h
    have hn := (rsCheck_ok_iff _ _).mp hc
    exact genBuffer_same (ne (by decide)) (ne (by decide)) (by rw [genpoly_length]; omega) _ _ _
  case rsEncode =>
    obtain ⟨_, hc, rfl⟩ := exceptMap_eq_ok_iff.mp h
    have hn := (rsCheck_ok_iff _ _).mp hc
    exact rsoutBuffer_same (ne (by decide)) (ne (by decide))
      (by rw [rsEc_length _ _ hn.1]; omega) _ _ _
  case rsRemainder =>
    obtain ⟨_, hc, rfl⟩ := exceptMap_eq_ok_iff.mp h
    have hn := (rsCheck_ok_iff _ _).mp hc
    exact rsoutBuffer_same (ne (by decide)) (ne (by decide))
      (by rw [rsRemainder_length]; omega) _ _ _
  case rsSyndrome =>
    obtain ⟨_, hc, rfl⟩ := exceptMap_eq_ok_iff.mp h
    have hn := (rsCheck_ok_iff _ _).mp hc
    exact rsoutBuffer_same (ne (by decide)) (ne (by decide)) (by simp [rsSyndromes]; omega) _ _ _
  case classify =>
    simp only [ruleOf] at h
    split at h
    · cases h
    · cases h
      exact (writeClass_same (ne (by decide)) _).trans (drawn _)
  case analyze =>
    obtain ⟨⟨p, a, v⟩, -, rfl⟩ := exceptMap_eq_ok_iff.mp h
    exact (writeAnalysis_same (ne (by decide)) (ne (by decide)) a v).trans (drawn _)
  case encodeQr =>
    obtain ⟨⟨p, a, v⟩, hr, rfl⟩ := exceptMap_eq_ok_iff.mp h
    obtain ⟨rfl, rfl, -⟩ := selectVersion_ok hr
    exact (writeAnalysis_same (ne (by decide)) (ne (by decide)) _ v).trans <|
      (pipelineTail_same hi (analyzed_writeAnalysis hr).version _).trans (drawn _)
  all_goals
    simp only [ruleOf, inStage_eq_ok_iff] at h
    obtain ⟨hs, rfl⟩ := h
  case encodeData =>
    exact (encodeData_same (ne (by decide)) (staged (by decide) hs) _).trans (drawn _)
  case interleave =>
    exact (interleave_same (ne (by decide)) (staged (by decide) hs)).trans (drawn _)
  case mxGeometry => exact buildGeometry_same (ne (by decide)) (ne (by decide))
  case mxPlace => exact (placeData_same (ne (by decide)) (ne (by decide))).trans (drawn _)
  case mxMask => exact maskMatrix_same (ne (by decide)) (ne (by decide)) _
  case mxChecksum => exact writeChecksums_same (ne (by decide)) (ne (by decide))

/-- A command leaves every part alone that it does not write, whether it succeeds or not. -/
theorem exec_same {i : Instr} {l : Location} {s t : State} (hi : i ∉ l.writers)
    (hv : s.status.stage ≠ .idle → 1 ≤ s.version ∧ s.version ≤ 40)
    (h : exec i s = .next t) : l.Same s t := by
  rw [exec_eq_runCommand] at h
  obtain ⟨u, hu, rfl⟩ | ⟨e, -, rfl⟩ := runCommand_cases h
  · exact (ruleOf_same hi hv hu).trans (l.same_control u _ _ _ _)
  · exact l.same_control s _ _ _ _

end Sys2Proof.Safety
end

section

open Sys2Proof Sys2Proof.Machine Sys2Proof.Safety

/-- Settles O24: each clause is the frame of one part of the state. -/
theorem onlyTabulatedLocationsChange : Obligations.OnlyTabulatedLocationsChange := by
  intro i s t hv h
  have same {l : Location} (hi : i ∉ l.writers) : l.Same s t := exec_same hi hv h
  have window {l : Location} (hi : i ∉ l.writers) {a : Nat} (ha : l.Holds a) :=
    (same hi).mem a ha
  exact ⟨(same (l := .host) nofun).regs, fun a => window (l := .inputs) nofun,
    fun hi => (same (l := .result) hi).regs, fun hi => (same (l := .textClass) hi).regs,
    fun hi => (same (l := .version) hi).regs,
    fun hi => ⟨(same (l := .dcw) hi).regs, fun a hlo hhi => window (l := .dcw) hi ⟨hlo, hhi⟩⟩,
    fun hi =>
      have ⟨hlen, hbits⟩ := (same (l := .final) hi).regs
      ⟨hlen, hbits, fun a hlo hhi => window (l := .final) hi ⟨hlo, hhi⟩⟩,
    fun hi => (same (l := .placed) hi).regs, fun hi => (same (l := .mask) hi).regs,
    fun hi => (same (l := .checksum) hi).regs, fun hi => (same (l := .side) hi).regs,
    fun hi a ha => window (l := .matrix) hi ha,
    fun hi a hlo hhi => window (l := .rsout) hi ⟨hlo, hhi⟩,
    fun hi a hlo hhi => window (l := .gen) (fun hm => hi (List.mem_singleton.mp hm)) ⟨hlo, hhi⟩⟩

end

section
/-! SUPPORT. The field GF(256) (41_gf.md R170): a product modulo 0x11D is linear in each
operand and multiplies powers of α by adding exponents, the ROMs hold the powers and the
exponents, and the machine's functions add, multiply and subtract exponents. -/

namespace Sys2Proof.Machine

open Sys2Proof.Reference

/-! ## Products modulo 0x11D -/

theorem xtime_xor (a b : Byte) : xtime (a ^^^ b) = xtime a ^^^ xtime b := by
  unfold xtime
  rw [BitVec.shiftLeft_xor_distrib, BitVec.getLsbD_xor]
  have reduced : (if (a.getLsbD 7 ^^ b.getLsbD 7) = true then (0x1D : Byte) else 0) =
      (if a.getLsbD 7 then 0x1D else 0) ^^^ (if b.getLsbD 7 then 0x1D else 0) := by
    cases a.getLsbD 7 <;> cases b.getLsbD 7 <;> rfl
  rw [reduced]
  ac_rfl

theorem shiftMul_xtime (a : Byte) (k : Nat) : shiftMul (xtime a) k = xtime (shiftMul a k) := by
  induction k with
  | zero => rfl
  | succ k ih => rw [shiftMul, ih]; rfl

theorem shiftMul_zero_left (k : Nat) : shiftMul 0 k = 0 := by
  induction k with
  | zero => rfl
  | succ k ih => rw [shiftMul, ih]; rfl

theorem polyMul_xtime (a b : Byte) : polyMul (xtime a) b = xtime (polyMul a b) := by
  refine List.foldl_hom (init := 0) xtime fun acc k => ?_
  rw [xtime_xor, shiftMul_xtime, apply_ite xtime]
  rfl

theorem zero_polyMul (b : Byte) : polyMul 0 b = 0 :=
  List.foldl_fixed' (fun k => by rw [shiftMul_zero_left, ite_self]; rfl) _

theorem polyMul_zero (a : Byte) : polyMul a 0 = 0 :=
  List.foldl_fixed' (fun _ => by simp) _

theorem one_polyMul (b : Byte) : polyMul 1 b = b := by
  have all : ∀ n < 256, polyMul 1 (BitVec.ofNat 8 n) = BitVec.ofNat 8 n := by decide +kernel
  simpa using all b.toNat b.isLt

theorem polyMul_xor (a b c : Byte) : polyMul a (b ^^^ c) = polyMul a b ^^^ polyMul a c := by
  have term (k : Nat) : (if (b ^^^ c).getLsbD k then shiftMul a k else 0) =
      (if b.getLsbD k then shiftMul a k else 0) ^^^ (if c.getLsbD k then shiftMul a k else 0) := by
    rw [BitVec.getLsbD_xor]
    cases b.getLsbD k <;> cases c.getLsbD k <;> simp
  simp only [polyMul, List.range_succ, List.range_zero, List.foldl_append, List.foldl_cons,
    List.foldl_nil, term]
  ac_rfl

/-- Multiplying powers of α adds their exponents. -/
theorem alphaPow_polyMul (i j : Nat) :
    polyMul (alphaPow i) (alphaPow j) = alphaPow (i + j) := by
  induction i with
  | zero => rw [alphaPow, one_polyMul, Nat.zero_add]
  | succ i ih => rw [alphaPow, polyMul_xtime, ih, Nat.succ_add]; rfl

/-! ## The ROMs of exponents and logarithms -/

theorem expRom_mod (i : Nat) : expRom (i % 255) = expRom i := by
  rw [expRom, Nat.mod_mod]; rfl

theorem expRom_add_mod (i j : Nat) : expRom (i % 255 + j % 255) = expRom (i + j) := by
  rw [← expRom_mod, ← Nat.add_mod, expRom_mod]

/-- R40: each entry is the one before it times α, and the last wraps to the first. -/
theorem expRom_succ (i : Nat) : expRom (i + 1) = xtime (expRom i) := by
  have all : ∀ j < 255, expRom (j + 1) = xtime (expRom j) := by decide +kernel
  have step := all (i % 255) (Nat.mod_lt i (by decide))
  rwa [expRom_mod, ← expRom_mod, Nat.mod_add_mod, expRom_mod] at step

theorem alphaPow_eq_expRom (i : Nat) : alphaPow i = expRom i := by
  induction i with
  | zero => rfl
  | succ i ih => rw [expRom_succ, ← ih]; rfl

/-- R41: LOG inverts EXP. -/
theorem logRom_expRom (i : Nat) : (logRom (expRom i)).toNat = i % 255 := by
  have all : ∀ j < 255, (logRom (expRom j)).toNat = j := by decide +kernel
  rw [← expRom_mod]
  exact all _ (Nat.mod_lt i (by decide))

/-- R41: every non-zero element is the power of α that LOG names. -/
theorem expRom_logRom {a : Byte} (h : a ≠ 0) : expRom (logRom a).toNat = a := by
  have all : ∀ n < 256, BitVec.ofNat 8 n ≠ 0 →
      expRom (logRom (BitVec.ofNat 8 n)).toNat = BitVec.ofNat 8 n := by decide +kernel
  simpa using all a.toNat a.isLt (by simpa using h)

theorem expRom_ne_zero (i : Nat) : expRom i ≠ 0 := by
  have all : ∀ j < 255, expRom j ≠ 0 := by decide +kernel
  rw [← expRom_mod]
  exact all _ (Nat.mod_lt i (by decide))

theorem eq_zero_or_eq_expRom (a : Byte) : a = 0 ∨ ∃ i < 255, a = expRom i := by
  by_cases h : a = 0
  · exact .inl h
  · refine .inr ⟨(logRom a).toNat, ?_, (expRom_logRom h).symm⟩
    rw [← expRom_logRom h, logRom_expRom]
    exact Nat.mod_lt _ (by decide)

/-! ## The functions of the field unit -/

theorem zero_gfMul (b : Byte) : gfMul 0 b = 0 := if_pos (.inl rfl)

theorem gfMul_zero (a : Byte) : gfMul a 0 = 0 := if_pos (.inr rfl)

@[simp] theorem gfMul_expRom (i j : Nat) : gfMul (expRom i) (expRom j) = expRom (i + j) := by
  simp only [gfMul, expRom_ne_zero, or_self, if_false, logRom_expRom, expRom_add_mod]

theorem gfMul_eq_polyMul (a b : Byte) : gfMul a b = polyMul a b := by
  obtain rfl | ⟨i, -, rfl⟩ := eq_zero_or_eq_expRom a
  · rw [zero_gfMul, zero_polyMul]
  obtain rfl | ⟨j, -, rfl⟩ := eq_zero_or_eq_expRom b
  · rw [gfMul_zero, polyMul_zero]
  rw [gfMul_expRom]
  simp only [← alphaPow_eq_expRom, alphaPow_polyMul]

theorem gfMul_comm (a b : Byte) : gfMul a b = gfMul b a := by
  simp only [gfMul, or_comm, Nat.add_comm]

theorem gfMul_assoc (a b c : Byte) : gfMul (gfMul a b) c = gfMul a (gfMul b c) := by
  obtain rfl | ⟨i, -, rfl⟩ := eq_zero_or_eq_expRom a
  · simp only [zero_gfMul]
  obtain rfl | ⟨j, -, rfl⟩ := eq_zero_or_eq_expRom b
  · simp only [zero_gfMul, gfMul_zero]
  obtain rfl | ⟨k, -, rfl⟩ := eq_zero_or_eq_expRom c
  · simp only [gfMul_zero]
  simp only [gfMul_expRom, Nat.add_assoc]

theorem gfMul_gfAdd (a b c : Byte) :
    gfMul a (gfAdd b c) = gfAdd (gfMul a b) (gfMul a c) := by
  simp only [gfMul_eq_polyMul, gfAdd, polyMul_xor]

theorem gfMul_one (a : Byte) : gfMul a 1 = a := by
  rw [gfMul_comm, gfMul_eq_polyMul, one_polyMul]

/-- R177: multiplication by α is the shift and reduction of R40. -/
theorem gfMul_two (a : Byte) : gfMul a 2 = xtime a := by
  rw [gfMul_comm, gfMul_eq_polyMul]
  exact (polyMul_xtime 1 a).trans (congrArg xtime (one_polyMul a))

theorem eq_zero_of_gfMul_eq_zero {a b : Byte} (h : gfMul a b = 0) : a = 0 ∨ b = 0 := by
  by_contra hab
  rw [gfMul, if_neg hab] at h
  exact expRom_ne_zero _ h

/-- R173: division succeeds by every non-zero divisor, and the product with the divisor is
the dividend. -/
theorem gfDiv_eq_ok (a : Byte) {b : Byte} (hb : b ≠ 0) :
    ∃ q, gfDiv a b = .ok q ∧ gfMul q b = a := by
  by_cases ha : a = 0
  · subst ha
    exact ⟨0, by rw [gfDiv, if_neg hb, if_pos rfl], zero_gfMul b⟩
  · refine ⟨_, by rw [gfDiv, if_neg hb, if_neg ha], ?_⟩
    have exponents : (logRom a).toNat + 255 - (logRom b).toNat + (logRom b).toNat =
        (logRom a).toNat + 255 := Nat.sub_add_cancel (by have := (logRom b).isLt; omega)
    conv_lhs => rw [← expRom_logRom hb]
    rw [gfMul_expRom, expRom_logRom hb, exponents, ← expRom_mod, Nat.add_mod_right, expRom_mod,
      expRom_logRom ha]

@[simp] theorem gfPow_zero (a : Byte) : gfPow a 0 = 1 := if_pos rfl

theorem zero_gfPow {e : Nat} (h : e ≠ 0) : gfPow 0 e = 0 := by rw [gfPow, if_neg h, if_pos rfl]

@[simp] theorem gfPow_expRom (i e : Nat) : gfPow (expRom i) e = expRom (i * e) := by
  by_cases h : e = 0
  · subst h; rfl
  · rw [gfPow, if_neg h, if_neg (expRom_ne_zero i), logRom_expRom, Nat.mod_mul_mod, expRom_mod]

theorem gfPow_add (a : Byte) (e f : Nat) : gfPow a (e + f) = gfMul (gfPow a e) (gfPow a f) := by
  obtain rfl | ⟨i, -, rfl⟩ := eq_zero_or_eq_expRom a
  · by_cases he : e = 0
    · subst he
      rw [gfPow_zero, gfMul_comm, gfMul_one, Nat.zero_add]
    · rw [zero_gfPow he, zero_gfMul, zero_gfPow (by omega)]
  · simp only [gfPow_expRom, gfMul_expRom, Nat.mul_add]

/-- R177: α^255 = 1, so exponents of a non-zero element count modulo 255. -/
theorem gfPow_mod {a : Byte} (h : a ≠ 0) (e : Nat) : gfPow a e = gfPow a (e % 255) := by
  rw [← expRom_logRom h, gfPow_expRom, gfPow_expRom, ← expRom_mod (_ * (e % 255)),
    Nat.mul_mod_mod, expRom_mod]

theorem gfPow_one (a : Byte) : gfPow a 1 = a := by
  obtain rfl | ⟨i, -, rfl⟩ := eq_zero_or_eq_expRom a
  · rfl
  · rw [gfPow_expRom, Nat.mul_one]

theorem gfPow_eq_polyPow (a : Byte) (e : Nat) : gfPow a e = polyPow a e := by
  induction e with
  | zero => rfl
  | succ e ih => rw [Nat.add_comm, gfPow_add, gfPow_one, ih, gfMul_eq_polyMul, Nat.add_comm]; rfl

theorem gfLog_expRom {i : Nat} (h : i < 255) : gfLog (expRom i) = .ok (BitVec.ofNat 8 i) := by
  rw [gfLog, if_neg (expRom_ne_zero i)]
  congr 1
  rw [← BitVec.toNat_inj, logRom_expRom, BitVec.toNat_ofNat]
  omega

/-! ## The commands of the field unit -/

/-- R178: a field command whose function answers `r` writes RESULT and completes. -/
theorem exec_of_ruleOf_gfResult {i : Instr} {s : State} {r : Byte}
    (h : ruleOf i s = .ok (gfResult r s)) :
    exec i s = .next { s with result := r.setWidth 32, status := Safety.doneStatus s } := by
  rw [exec_eq_runCommand, runCommand_ok h]
  rfl

/-- R411: a command whose rule raises `e` fails with it. -/
theorem exec_of_ruleOf_error {i : Instr} {s : State} {e : ErrCode} (h : ruleOf i s = .error e) :
    exec i s = .next (s.fail i e) := by
  rw [exec_eq_runCommand, runCommand_error h]

theorem exec_gfDiv_of_ok {s : State} {q : Byte} (h : gfDiv s.opA8 s.opB8 = .ok q) :
    exec .gfDiv s = .next { s with result := q.setWidth 32, status := Safety.doneStatus s } :=
  exec_of_ruleOf_gfResult (exceptMap_eq_ok_iff.mpr ⟨q, h, rfl⟩)

theorem exec_gfLog_of_ok {s : State} {r : Byte} (h : gfLog s.opA8 = .ok r) :
    exec .gfLog s = .next { s with result := r.setWidth 32, status := Safety.doneStatus s } :=
  exec_of_ruleOf_gfResult (exceptMap_eq_ok_iff.mpr ⟨r, h, rfl⟩)

end Sys2Proof.Machine
end

section

open Sys2Proof Sys2Proof.Machine Sys2Proof.Reference Sys2Proof.Safety

/-- Settles O27: the rule of GF_ADD is the exclusive OR of the operand fields. -/
theorem gfAddWritesSum : Obligations.GfAddWritesSum :=
  fun _ => exec_of_ruleOf_gfResult rfl

/-- Settles O28: the product by logarithms is the product modulo 0x11D. -/
theorem gfMulWritesProduct : Obligations.GfMulWritesProduct := by
  intro s
  rw [← gfMul_eq_polyMul]
  exact exec_of_ruleOf_gfResult rfl

/-- Settles O29: a non-zero divisor has a quotient, and the divisor is tested first. -/
theorem gfDivWritesQuotient : Obligations.GfDivWritesQuotient := by
  refine ⟨fun s hb => ?_, fun s hb => ?_⟩
  · obtain ⟨q, hq, product⟩ := gfDiv_eq_ok s.opA8 hb
    exact ⟨q, (gfMul_eq_polyMul _ _).symm.trans product, exec_gfDiv_of_ok hq⟩
  · have raises : gfDiv s.opA8 s.opB8 = .error .divideByZero := if_pos hb
    exact exec_of_ruleOf_error (exceptMap_eq_error_iff.mpr raises)

/-- Settles O30: the power by logarithms is the repeated product. -/
theorem gfPowWritesPower : Obligations.GfPowWritesPower := by
  intro s
  rw [← gfPow_eq_polyPow]
  exact exec_of_ruleOf_gfResult rfl

/-- Settles O31: EXP holds the powers of α, with period 255. -/
theorem gfExpWritesAlphaPower : Obligations.GfExpWritesAlphaPower := by
  intro s
  rw [alphaPow_eq_expRom]
  exact exec_of_ruleOf_gfResult rfl

/-- Settles O32: every non-zero element is a power of α, and LOG holds its exponent. -/
theorem gfLogWritesExponent : Obligations.GfLogWritesExponent := by
  refine ⟨fun s ha => ?_, fun s ha => ?_⟩
  · obtain h | ⟨i, hi, h⟩ := eq_zero_or_eq_expRom s.opA8
    · exact absurd h ha
    · have answer : gfLog s.opA8 = .ok (BitVec.ofNat 8 i) := h ▸ gfLog_expRom hi
      have widened : (BitVec.ofNat 8 i).setWidth 32 = BitVec.ofNat 32 i :=
        BitVec.setWidth_ofNat_of_le_of_lt (by decide) (by omega)
      refine ⟨i, hi, (alphaPow_eq_expRom i).trans h.symm, ?_⟩
      rw [exec_gfLog_of_ok answer, widened]
  · have raises : gfLog s.opA8 = .error .domain := if_pos ha
    exact exec_of_ruleOf_error (exceptMap_eq_error_iff.mpr raises)

/-- Settles O33: each law of R177 is a lemma about the field functions. -/
theorem fieldLawsHold : Obligations.FieldLawsHold := by
  refine ⟨fun a b c => ⟨BitVec.xor_comm a b, gfMul_comm a b, BitVec.xor_assoc a b c,
      gfMul_assoc a b c, gfMul_gfAdd a b c, BitVec.xor_zero, gfMul_one a⟩, fun a ha => ?_,
    fun _ _ => eq_zero_of_gfMul_eq_zero, gfPow_add, fun _ e ha => gfPow_mod ha e,
    fun e he => zero_gfPow (by omega), fun _ => expRom_logRom, fun i _ => logRom_expRom i,
    gfMul_two⟩
  obtain ⟨q, hq, product⟩ := gfDiv_eq_ok 1 ha
  exact ⟨q, hq, (gfMul_comm a q).trans product⟩

end

section
/-! SUPPORT. Polynomials over GF(256) as byte lists (42_rs.md R207) and their values: what
the machine's additions, rounds and divisions do to the value at a point, and that a
polynomial of degree below n is fixed by its values at the n roots of g_n (R201). -/

namespace Sys2Proof.Machine

open Sys2Proof.Reference

/-! ## Sums and products

The laws of exclusive OR come first, with the zero byte spelled as the model spells it. -/

theorem byte_xor_zero (a : Byte) : a ^^^ 0 = a := BitVec.xor_zero

theorem byte_zero_xor (a : Byte) : 0 ^^^ a = a := BitVec.zero_xor

theorem byte_xor_self (a : Byte) : a ^^^ a = 0 := BitVec.xor_self

theorem gfMul_xor (a b c : Byte) : gfMul a (b ^^^ c) = gfMul a b ^^^ gfMul a c :=
  gfMul_gfAdd a b c

theorem xor_gfMul (a b c : Byte) : gfMul (a ^^^ b) c = gfMul a c ^^^ gfMul b c := by
  rw [gfMul_comm, gfMul_xor, gfMul_comm c, gfMul_comm c]

theorem one_gfMul (a : Byte) : gfMul 1 a = a := (gfMul_comm 1 a).trans (gfMul_one a)

theorem gfMul_right_comm (a b c : Byte) : gfMul (gfMul a b) c = gfMul (gfMul a c) b := by
  rw [gfMul_assoc, gfMul_comm b, gfMul_assoc]

/-- The powers of α below the 255th differ (R40). -/
theorem alphaPow_inj {i j : Nat} (hi : i < 255) (hj : j < 255) (h : alphaPow i = alphaPow j) :
    i = j := by
  rw [alphaPow_eq_expRom, alphaPow_eq_expRom] at h
  have exponents : i % 255 = j % 255 := by rw [← logRom_expRom, h, logRom_expRom]
  rwa [Nat.mod_eq_of_lt hi, Nat.mod_eq_of_lt hj] at exponents

/-! ## Values of polynomials -/

theorem evalPoly_nil (x : Byte) : evalPoly [] x = 0 := rfl

theorem evalPoly_cons (c : Byte) (cs : List Byte) (x : Byte) :
    evalPoly (c :: cs) x = gfMul c (gfPow x cs.length) ^^^ evalPoly cs x := by
  rw [gfMul_eq_polyMul, gfPow_eq_polyPow]
  rfl

theorem evalPoly_append (p q : List Byte) (x : Byte) :
    evalPoly (p ++ q) x = gfMul (evalPoly p x) (gfPow x q.length) ^^^ evalPoly q x := by
  induction p with
  | nil => rw [List.nil_append, evalPoly_nil, zero_gfMul, byte_zero_xor]
  | cons c p ih =>
    rw [List.cons_append, evalPoly_cons, evalPoly_cons, ih, List.length_append, gfPow_add,
      xor_gfMul, gfMul_assoc, BitVec.xor_assoc]

theorem evalPoly_concat (p : List Byte) (c x : Byte) :
    evalPoly (p ++ [c]) x = gfMul (evalPoly p x) x ^^^ c := by
  rw [evalPoly_append, evalPoly_cons, evalPoly_nil, List.length_singleton, List.length_nil,
    gfPow_one, gfPow_zero, gfMul_one, byte_xor_zero]

theorem evalPoly_replicate_zero (k : Nat) (x : Byte) : evalPoly (List.replicate k 0) x = 0 := by
  induction k with
  | zero => rfl
  | succ k ih => rw [List.replicate_succ, evalPoly_cons, ih, zero_gfMul]; rfl

/-- R206: leading zeros do not change the polynomial. -/
theorem evalPoly_replicate_zero_append (k : Nat) (p : List Byte) (x : Byte) :
    evalPoly (List.replicate k 0 ++ p) x = evalPoly p x := by
  rw [evalPoly_append, evalPoly_replicate_zero, zero_gfMul, byte_zero_xor]

theorem evalPoly_map_gfMul (p : List Byte) (a x : Byte) :
    evalPoly (p.map fun c => gfMul c a) x = gfMul (evalPoly p x) a := by
  induction p with
  | nil => rw [List.map_nil, evalPoly_nil, zero_gfMul]
  | cons c p ih =>
    rw [List.map_cons, evalPoly_cons, evalPoly_cons, ih, List.length_map, xor_gfMul,
      gfMul_right_comm]

/-- Adding `p` onto the first coefficients of `r` adds `p` times a power of x. -/
theorem evalPoly_xorOnto {r p : List Byte} (h : p.length ≤ r.length) (x : Byte) :
    evalPoly (xorOnto r p) x =
      evalPoly r x ^^^ gfMul (evalPoly p x) (gfPow x (r.length - p.length)) := by
  induction r generalizing p with
  | nil =>
    obtain rfl := List.length_eq_zero_iff.mp (Nat.le_zero.mp h)
    rw [xorOnto, evalPoly_nil, zero_gfMul, byte_xor_zero]
  | cons a r ih =>
    cases p with
    | nil => rw [xorOnto, evalPoly_nil, zero_gfMul, byte_xor_zero]
    | cons b p =>
      have hp : p.length ≤ r.length := Nat.le_of_succ_le_succ h
      have lead : gfPow x r.length = gfMul (gfPow x p.length) (gfPow x (r.length - p.length)) := by
        rw [← gfPow_add, Nat.add_sub_cancel' hp]
      rw [xorOnto, evalPoly_cons, evalPoly_cons, evalPoly_cons, ih hp, xorOnto_length,
        List.length_cons, List.length_cons, Nat.add_sub_add_right, xor_gfMul, xor_gfMul,
        gfMul_assoc b, ← lead]
      ac_rfl

theorem evalPoly_xorOnto_of_length_eq {r p : List Byte} (h : p.length = r.length) (x : Byte) :
    evalPoly (xorOnto r p) x = evalPoly r x ^^^ evalPoly p x := by
  rw [evalPoly_xorOnto h.le, h, Nat.sub_self, gfPow_zero, gfMul_one]

/-- R205: Horner's rule computes the value. -/
theorem hornerAt_eq_evalPoly (i : Nat) (c : List Byte) :
    hornerAt i c = evalPoly c (alphaPow i) := by
  rw [alphaPow_eq_expRom]
  induction c using List.reverseRecOn with
  | nil => rfl
  | append_singleton c d ih =>
    rw [evalPoly_concat, ← ih, hornerAt, List.foldl_concat]
    rfl

theorem rsSyndromes_eq_map_evalPoly (c : List Byte) (n : Nat) :
    rsSyndromes c n = (List.range n).map fun i => evalPoly c (alphaPow i) :=
  List.map_congr_left fun i _ => hornerAt_eq_evalPoly i c

@[simp] theorem rsSyndromes_length (c : List Byte) (n : Nat) : (rsSyndromes c n).length = n := by
  simp [rsSyndromes]

/-! ## Generator polynomials -/

/-- A round of R201 multiplies by the monomial x - α^i. -/
theorem evalPoly_genStep (g : List Byte) (i : Nat) (x : Byte) :
    evalPoly (genStep g i) x = gfMul (evalPoly g x) (x ^^^ alphaPow i) := by
  have length : (0 :: g.map fun c => gfMul c (expRom i)).length = (g ++ [0]).length := by simp
  rw [genStep, evalPoly_xorOnto_of_length_eq length, evalPoly_concat, evalPoly_cons,
    evalPoly_map_gfMul, zero_gfMul, gfMul_xor, alphaPow_eq_expRom, byte_xor_zero,
    byte_zero_xor]

theorem genpoly_succ (n : Nat) : genpoly (n + 1) = genStep (genpoly n) n := by
  rw [genpoly, List.range_succ, List.foldl_concat]
  rfl

/-- R201: g_n has the roots α^0, ..., α^(n-1). -/
theorem genpoly_vanishesAtRoots (n : Nat) : vanishesAtRoots (genpoly n) n := by
  induction n with
  | zero => nofun
  | succ n ih =>
    intro i hi
    rw [genpoly_succ, evalPoly_genStep]
    obtain hi | rfl := Nat.lt_succ_iff_lt_or_eq.mp hi
    · rw [ih i hi, zero_gfMul]
    · rw [byte_xor_self, gfMul_zero]

/-- R201: g_n is monic. -/
theorem genpoly_eq_one_cons (n : Nat) : genpoly n = 1 :: (genpoly n).tail := by
  induction n with
  | zero => rfl
  | succ n ih => rw [genpoly_succ, ih]; rfl

theorem genpoly_tail_length (n : Nat) : (genpoly n).tail.length = n := by
  rw [List.length_tail, genpoly_length, Nat.add_sub_cancel]

/-- At a root of g_n its tail is worth x^n. -/
theorem evalPoly_genpoly_tail {n i : Nat} (hi : i < n) :
    evalPoly (genpoly n).tail (alphaPow i) = gfPow (alphaPow i) n := by
  have root := genpoly_vanishesAtRoots n i hi
  rw [genpoly_eq_one_cons, evalPoly_cons, one_gfMul, genpoly_tail_length] at root
  exact (BitVec.xor_eq_zero_iff.mp root).symm

/-! ## Division by a generator polynomial -/

/-- A round of R208 multiplies the register by x and adds the byte times x^n, at a root. -/
theorem evalPoly_rsStep {n i : Nat} (hi : i < n) {rem : List Byte} (hrem : rem.length = n)
    (d : Byte) :
    evalPoly (rsStep (genpoly n) rem d) (alphaPow i) =
      gfMul (evalPoly rem (alphaPow i)) (alphaPow i) ^^^ gfMul d (gfPow (alphaPow i) n) := by
  obtain _ | ⟨lead, rest⟩ := rem
  · rw [← hrem] at hi; nomatch hi
  have length : ((genpoly n).tail.map fun c => gfMul c (d ^^^ lead)).length =
      (rest ++ [0]).length := by simp [← hrem]
  have lead_power : gfPow (alphaPow i) n =
      gfMul (gfPow (alphaPow i) rest.length) (alphaPow i) := by
    rw [← hrem, List.length_cons, gfPow_add, gfPow_one]
  have folded : evalPoly (rsStep (genpoly n) (lead :: rest) d) (alphaPow i) =
      gfMul (evalPoly rest (alphaPow i)) (alphaPow i) ^^^
        gfMul (gfPow (alphaPow i) n) (d ^^^ lead) := by
    refine (evalPoly_xorOnto_of_length_eq length _).trans ?_
    rw [evalPoly_map_gfMul, evalPoly_genpoly_tail hi]
    exact congrArg (· ^^^ _) ((evalPoly_concat ..).trans (byte_xor_zero _))
  rw [folded, evalPoly_cons, xor_gfMul, gfMul_assoc, ← lead_power, gfMul_comm _ (d ^^^ lead),
    xor_gfMul]
  ac_rfl

/-- R208: at the roots of g_n the correction bytes are worth D(x)·x^n. -/
theorem evalPoly_rsEc {n i : Nat} (hi : i < n) (d : List Byte) :
    evalPoly (rsEc d n) (alphaPow i) =
      gfMul (evalPoly d (alphaPow i)) (gfPow (alphaPow i) n) := by
  induction d using List.reverseRecOn with
  | nil => exact (evalPoly_replicate_zero n _).trans (zero_gfMul _).symm
  | append_singleton d b ih =>
    have step : rsEc (d ++ [b]) n = rsStep (genpoly n) (rsEc d n) b := List.foldl_concat ..
    rw [step, evalPoly_rsStep hi (rsEc_length d n (by omega)), ih, evalPoly_concat, xor_gfMul,
      gfMul_right_comm]

/-- R203: the correction bytes complete the block to a codeword. -/
theorem append_rsEc_vanishesAtRoots (d : List Byte) (n : Nat) :
    vanishesAtRoots (d ++ rsEc d n) n := by
  intro i hi
  rw [evalPoly_append, evalPoly_rsEc hi, rsEc_length d n (by omega), byte_xor_self]

/-- A round of R204 keeps the value at the roots of g_n. -/
theorem evalPoly_polyReduce {n i : Nat} (hi : i < n) {k : Nat} {r : List Byte}
    (h : k + n ≤ r.length) :
    evalPoly (polyReduce (genpoly n) k r) (alphaPow i) = evalPoly r (alphaPow i) := by
  induction k generalizing r with
  | zero => rfl
  | succ k ih =>
    obtain _ | ⟨lead, r⟩ := r
    · simp at h
    have hr : k + n ≤ r.length := by rw [List.length_cons] at h; omega
    have length : ((genpoly n).tail.map fun c => gfMul c lead).length = n := by
      rw [List.length_map, genpoly_tail_length]
    rw [polyReduce, ih (by rwa [xorOnto_length]), evalPoly_xorOnto (by omega), length,
      evalPoly_map_gfMul, evalPoly_genpoly_tail hi, gfMul_right_comm, ← gfPow_add,
      Nat.add_sub_cancel' (by omega), gfMul_comm, evalPoly_cons, BitVec.xor_comm]

/-- R204: the remainder agrees with the polynomial at the roots of g_n. -/
theorem evalPoly_rsRemainder {n i : Nat} (hi : i < n) (c : List Byte) :
    evalPoly (rsRemainder c n) (alphaPow i) = evalPoly c (alphaPow i) := by
  unfold rsRemainder
  split
  · exact evalPoly_replicate_zero_append _ c _
  · exact evalPoly_polyReduce hi (by omega)

/-! ## Polynomials of degree below n -/

theorem xorOnto_eq_zipWith {r p : List Byte} (h : r.length = p.length) :
    xorOnto r p = List.zipWith (· ^^^ ·) r p := by
  induction r generalizing p with
  | nil =>
    obtain rfl := List.length_eq_zero_iff.mp h.symm
    rfl
  | cons a r ih =>
    obtain _ | ⟨b, p⟩ := p
    · nomatch h
    rw [xorOnto, ih (Nat.succ.inj h), List.zipWith_cons_cons]

theorem evalPoly_zipWith_xor {p q : List Byte} (h : p.length = q.length) (x : Byte) :
    evalPoly (List.zipWith (· ^^^ ·) p q) x = evalPoly p x ^^^ evalPoly q x := by
  rw [← xorOnto_eq_zipWith h, evalPoly_xorOnto_of_length_eq h.symm]

/-- Division by x - α^i with Horner's rule: the quotient, and the value at α^i as the
remainder. -/
theorem exists_quotient (p : List Byte) (c : Byte) (i : Nat) :
    ∃ q : List Byte, q.length = p.length ∧
      p ++ [c] = List.zipWith (· ^^^ ·) (q ++ [evalPoly (p ++ [c]) (alphaPow i)])
        (0 :: q.map fun a => gfMul a (expRom i)) := by
  induction p using List.reverseRecOn generalizing c with
  | nil =>
    refine ⟨[], rfl, ?_⟩
    rw [evalPoly_concat, evalPoly_nil, zero_gfMul, byte_zero_xor]
    exact congrArg ([·]) (byte_xor_zero c).symm
  | append_singleton p d ih =>
    obtain ⟨q, length, hq⟩ := ih d
    refine ⟨q ++ [evalPoly (p ++ [d]) (alphaPow i)], by simp [length], ?_⟩
    have last : c = evalPoly (p ++ [d] ++ [c]) (alphaPow i) ^^^
        gfMul (evalPoly (p ++ [d]) (alphaPow i)) (expRom i) := by
      rw [evalPoly_concat _ c, alphaPow_eq_expRom, BitVec.xor_comm (gfMul _ _), BitVec.xor_assoc,
        byte_xor_self, byte_xor_zero]
    rw [List.map_append, ← List.cons_append, List.zipWith_append (by simp), ← hq]
    exact congrArg (p ++ [d] ++ [·]) last

/-- A polynomial with the root α^i is a multiple of x - α^i. -/
theorem exists_eq_genStep {n i : Nat} {p : List Byte} (hp : p.length = n + 1)
    (root : evalPoly p (alphaPow i) = 0) : ∃ q : List Byte, q.length = n ∧ p = genStep q i := by
  obtain rfl | ⟨p, c, rfl⟩ := List.eq_nil_or_concat' p
  · nomatch hp
  obtain ⟨q, length, hq⟩ := exists_quotient p c i
  rw [root, ← xorOnto_eq_zipWith (by simp)] at hq
  rw [List.length_append, List.length_singleton] at hp
  exact ⟨q, by omega, hq⟩

theorem genStep_replicate_zero (n i : Nat) :
    genStep (List.replicate n 0) i = List.replicate (n + 1) 0 := by
  rw [genStep, List.map_replicate, zero_gfMul, ← List.replicate_succ, ← List.replicate_succ',
    xorOnto_eq_zipWith rfl, List.zipWith_replicate, byte_xor_self, Nat.min_self]

/-- Only 0 has degree below n and the roots α^0, ..., α^(n-1), which are distinct. -/
theorem eq_replicate_zero_of_vanishesAtRoots {n : Nat} (hn : n ≤ 255) {p : List Byte}
    (hp : p.length = n) (h : vanishesAtRoots p n) : p = List.replicate n 0 := by
  induction n generalizing p with
  | zero => exact List.length_eq_zero_iff.mp hp
  | succ n ih =>
    obtain ⟨q, length, rfl⟩ := exists_eq_genStep hp (h n n.lt_succ_self)
    have roots : vanishesAtRoots q n := fun i hi => by
      have product := h i (by omega)
      rw [evalPoly_genStep] at product
      refine (eq_zero_of_gfMul_eq_zero product).resolve_right fun same => ?_
      have := alphaPow_inj (by omega) (by omega) (BitVec.xor_eq_zero_iff.mp same)
      omega
    rw [ih (by omega) length roots, genStep_replicate_zero]

/-- Polynomials of degree below n with the same values at the roots of g_n are the same. -/
theorem eq_of_evalPoly_eq {n : Nat} (hn : n ≤ 255) {p q : List Byte} (hp : p.length = n)
    (hq : q.length = n)
    (h : ∀ i < n, evalPoly p (alphaPow i) = evalPoly q (alphaPow i)) : p = q := by
  have length : p.length = q.length := hp.trans hq.symm
  have difference : List.zipWith (· ^^^ ·) p q = List.replicate n 0 := by
    refine eq_replicate_zero_of_vanishesAtRoots hn (by simp [hp, hq]) fun i hi => ?_
    rw [evalPoly_zipWith_xor length, h i hi, byte_xor_self]
  refine List.ext_getElem length fun k hk hk' => ?_
  have coefficient : (List.zipWith (· ^^^ ·) p q)[k]'(by simp; omega) = 0 := by
    simp only [difference, List.getElem_replicate]
  rw [List.getElem_zipWith] at coefficient
  exact BitVec.xor_eq_zero_iff.mp coefficient

/-- R208: rs_ec(D, n) is the one polynomial of degree below n that agrees with D(x)·x^n at
the roots of g_n. -/
theorem rsEc_eq_of_evalPoly {n : Nat} (h1 : 1 ≤ n) (hn : n ≤ 255) {d e : List Byte}
    (he : e.length = n)
    (h : ∀ i < n, evalPoly e (alphaPow i) =
      gfMul (evalPoly d (alphaPow i)) (gfPow (alphaPow i) n)) : rsEc d n = e :=
  eq_of_evalPoly_eq hn (rsEc_length d n h1) he fun i hi => by rw [evalPoly_rsEc hi, h i hi]

/-- R204: the remainder is 0 exactly for a codeword. -/
theorem rsRemainder_eq_zero_iff {n : Nat} (hn : n ≤ 255) (c : List Byte) :
    rsRemainder c n = List.replicate n 0 ↔ vanishesAtRoots c n := by
  constructor
  · intro h i hi
    rw [← evalPoly_rsRemainder hi, h, evalPoly_replicate_zero]
  · intro h
    refine eq_replicate_zero_of_vanishesAtRoots hn (rsRemainder_length c n) fun i hi => ?_
    rw [evalPoly_rsRemainder hi, h i hi]

/-- R205: the syndromes are 0 exactly for a codeword. -/
theorem rsSyndromes_eq_zero_iff (c : List Byte) (n : Nat) :
    rsSyndromes c n = List.replicate n 0 ↔ vanishesAtRoots c n := by
  rw [rsSyndromes_eq_map_evalPoly, List.eq_replicate_iff]
  simp [vanishesAtRoots]

/-! ## The RS commands -/

theorem rsInput_eq_rsDataOf (s : State) : s.rsInput = Safety.rsDataOf s :=
  Memory.readBlock_eq ..

theorem storesExactly_store (m : Memory) (base : Nat) (bytes : List Byte) :
    Safety.StoresExactly m (Memory.store m base bytes) base bytes :=
  Memory.get?_store m base bytes

/-- R411: the command `i`, which moves no STAGE and reads nothing before its checks, fails
with `e`. -/
theorem fail_eq_errorState {i : Instr} (hidle : errorToIdle i = false)
    (hreads : readsBeforeError i = false) (e : ErrCode) (s : State) :
    s.fail i e = Safety.errorState i e s.status.stage s := by
  simp [State.fail, State.raise, Safety.errorState, hidle, hreads, Status.failed,
    Status.completed]

/-- R200: a command that makes the checks of the RS commands first raises their errors. -/
theorem rsErrors_of_ruleOf {i : Instr} {readsK : Bool} {f : State → State}
    (hidle : errorToIdle i = false) (hreads : readsBeforeError i = false)
    (rule : ∀ s, ruleOf i s = (rsCheck readsK s).map fun _ => f s) :
    Safety.rsErrors i readsK := by
  have raises {s : State} {e : ErrCode} (h : rsCheck readsK s = .error e) :
      exec i s = .next (Safety.errorState i e s.status.stage s) := by
    rw [← fail_eq_errorState hidle hreads]
    exact exec_of_ruleOf_error ((rule s).trans (exceptMap_eq_error_iff.mpr h))
  refine fun s => ⟨fun hn => raises ?_, fun hn => raises ?_, fun hk hn hlarge => raises ?_⟩
  · exact if_pos (congrArg BitVec.toNat hn)
  · have nonzero : s.rsN ≠ 0 := by simp only [State.rsN]; omega
    exact (if_neg nonzero).trans (if_pos hn)
  · have nonzero : s.rsN ≠ 0 := fun h => hn (BitVec.toNat_inj.mp h)
    rw [rsCheck, if_neg nonzero, hk]
    split
    · rfl
    · exact if_pos (decide_eq_true hlarge)

/-- R410: past the checks, the command completes with what the rest of its rule gives. -/
theorem exec_of_rsCheck_ok {i : Instr} {readsK : Bool} {f : State → State} {s : State}
    (rule : ∀ s, ruleOf i s = (rsCheck readsK s).map fun _ => f s)
    (h : rsCheck readsK s = .ok ()) : exec i s = .next (f s).complete := by
  rw [exec_eq_runCommand, runCommand_ok ((rule s).trans (exceptMap_eq_ok_iff.mpr ⟨(), h, rfl⟩))]

theorem exec_rsGenpoly {s : State} (h : rsCheck false s = .ok ()) :
    exec .rsGenpoly s = .next { s with
      mem := Memory.store s.mem 0x01200 (genpoly s.rsCfg.n.toNat)
      result := BitVec.ofNat 32 (s.rsCfg.n.toNat + 1)
      genCache := cacheGenerator s.rsN s.genCache, status := Safety.doneStatus s } := by
  refine (exec_of_rsCheck_ok (fun _ => rfl) h).trans ?_
  rfl

/-- What RS_ENCODE and RS_REMAINDER write (R203, R204). -/
theorem complete_writeRsout (s : State) (bytes : List Byte) (r : Word) (n : Nat) :
    (((s.writeBuf .rsout bytes).setResult r).usesGenerator n).drawn.complete = { s with
      mem := Memory.store s.mem 0x01100 bytes, result := r
      genCache := cacheGenerator n s.genCache
      draws := s.draws + 1, status := Safety.doneStatus s } := by
  simp only [State.complete, State.drawn, State.usesGenerator, State.setResult, State.writeBuf]
  rfl

theorem exec_rsEncode {s : State} (h : rsCheck true s = .ok ()) :
    exec .rsEncode s = .next { s with
      mem := Memory.store s.mem 0x01100 (rsEc (Safety.rsDataOf s) s.rsCfg.n.toNat)
      result := BitVec.ofNat 32 s.rsCfg.n.toNat
      genCache := cacheGenerator s.rsN s.genCache
      draws := s.draws + 1, status := Safety.doneStatus s } := by
  rw [← rsInput_eq_rsDataOf, ← State.rsN]
  refine (exec_of_rsCheck_ok (fun _ => rfl) h).trans ?_
  exact congrArg Host.Outcome.next (complete_writeRsout s _ _ _)

theorem exec_rsRemainder {s : State} (h : rsCheck true s = .ok ()) :
    exec .rsRemainder s = .next { s with
      mem := Memory.store s.mem 0x01100 (rsRemainder (Safety.rsDataOf s) s.rsCfg.n.toNat)
      result := allZeroFlag (rsRemainder (Safety.rsDataOf s) s.rsCfg.n.toNat)
      genCache := cacheGenerator s.rsN s.genCache
      draws := s.draws + 1, status := Safety.doneStatus s } := by
  rw [← rsInput_eq_rsDataOf, ← State.rsN]
  refine (exec_of_rsCheck_ok (fun _ => rfl) h).trans ?_
  exact congrArg Host.Outcome.next (complete_writeRsout s _ _ _)

theorem exec_rsSyndrome {s : State} (h : rsCheck true s = .ok ()) :
    exec .rsSyndrome s = .next { s with
      mem := Memory.store s.mem 0x01100 (rsSyndromes (Safety.rsDataOf s) s.rsCfg.n.toNat)
      result := allZeroFlag (rsSyndromes (Safety.rsDataOf s) s.rsCfg.n.toNat)
      draws := s.draws + 1, status := Safety.doneStatus s } := by
  rw [← rsInput_eq_rsDataOf, ← State.rsN]
  refine (exec_of_rsCheck_ok (fun _ => rfl) h).trans ?_
  rfl

theorem allZeroFlag_eq (bs : List Byte) : allZeroFlag bs = if ∀ b ∈ bs, b = 0 then 1 else 0 := by
  simp [allZeroFlag]

theorem allZeroFlag_of_eq_zero_iff {bs : List Byte} {n : Nat} {P : Prop} [Decidable P]
    (length : bs.length = n) (h : bs = List.replicate n 0 ↔ P) :
    allZeroFlag bs = if P then 1 else 0 := by
  have zero : (∀ b ∈ bs, b = 0) ↔ P := by rw [← h, List.eq_replicate_iff, and_iff_right length]
  exact (allZeroFlag_eq bs).trans (if_congr zero rfl rfl)

/-- R204: RS_REMAINDER flags the codewords. -/
theorem allZeroFlag_rsRemainder {n : Nat} (hn : n ≤ 255) (c : List Byte) :
    allZeroFlag (rsRemainder c n) = if ∀ i < n, evalPoly c (alphaPow i) = 0 then 1 else 0 :=
  allZeroFlag_of_eq_zero_iff (rsRemainder_length c n) (rsRemainder_eq_zero_iff hn c)

/-- R205: RS_SYNDROME flags the codewords. -/
theorem allZeroFlag_rsSyndromes (c : List Byte) (n : Nat) :
    allZeroFlag (rsSyndromes c n) = if ∀ i < n, evalPoly c (alphaPow i) = 0 then 1 else 0 :=
  allZeroFlag_of_eq_zero_iff (rsSyndromes_length c n) (rsSyndromes_eq_zero_iff c n)

end Sys2Proof.Machine
end

section

open Sys2Proof Sys2Proof.Machine Sys2Proof.Reference Sys2Proof.Safety

/-- Settles O34: R201 builds g_N as a product of monomials. -/
theorem rsGenpolyStoresMonicPolynomialWithRoots :
    Obligations.RsGenpolyStoresMonicPolynomialWithRoots := by
  refine ⟨rsErrors_of_ruleOf rfl rfl fun _ => rfl, fun s h1 h32 => ?_⟩
  have ok : rsCheck false s = .ok () := (rsCheck_ok_iff _ _).mpr ⟨h1, h32, nofun⟩
  exact ⟨genpoly s.rsCfg.n.toNat, _, _, exec_rsGenpoly ok, genpoly_length _,
    by rw [genpoly_eq_one_cons]; rfl, genpoly_vanishesAtRoots _, storesExactly_store _ _ _⟩

/-- Settles O35: the correction bytes take the value of D(x)·x^N at each root of g_N. -/
theorem rsEncodeCompletesCodeword : Obligations.RsEncodeCompletesCodeword := by
  refine ⟨rsErrors_of_ruleOf rfl rfl fun _ => rfl, fun s h1 h32 hk => ?_⟩
  have ok : rsCheck true s = .ok () := (rsCheck_ok_iff _ _).mpr ⟨h1, h32, fun _ => hk⟩
  exact ⟨_, _, _, exec_rsEncode ok, rsEc_length _ _ h1, append_rsEc_vanishesAtRoots _ _,
    storesExactly_store _ _ _⟩

/-- Settles O36: each round of the division keeps the values at the roots of g_N. -/
theorem rsRemainderStoresRemainder : Obligations.RsRemainderStoresRemainder := by
  refine ⟨rsErrors_of_ruleOf rfl rfl fun _ => rfl, fun s h1 h32 hk => ?_⟩
  have ok : rsCheck true s = .ok () := (rsCheck_ok_iff _ _).mpr ⟨h1, h32, fun _ => hk⟩
  simp only [← allZeroFlag_eq]
  exact ⟨_, _, _, exec_rsRemainder ok, rsRemainder_length _ _,
    fun i hi => evalPoly_rsRemainder hi _, storesExactly_store _ _ _⟩

/-- Settles O37: Horner's rule gives the values at the roots of g_N. -/
theorem rsSyndromeStoresEvaluations : Obligations.RsSyndromeStoresEvaluations := by
  refine ⟨rsErrors_of_ruleOf rfl rfl fun _ => rfl, fun s h1 h32 hk => ?_⟩
  have ok : rsCheck true s = .ok () := (rsCheck_ok_iff _ _).mpr ⟨h1, h32, fun _ => hk⟩
  simp only [← rsSyndromes_eq_map_evalPoly, ← allZeroFlag_rsSyndromes]
  exact ⟨_, exec_rsSyndrome ok, storesExactly_store _ _ _⟩

/-- Settles O38: remainder and syndromes are 0 for the same polynomials, as only 0 has degree
below N and the N roots of g_N. -/
theorem codewordChecksAgree : Obligations.CodewordChecksAgree := by
  intro s t u h1 h32 hk ht hu
  have ok : rsCheck true s = .ok () := (rsCheck_ok_iff _ _).mpr ⟨h1, h32, fun _ => hk⟩
  cases ht.symm.trans (exec_rsRemainder ok)
  cases hu.symm.trans (exec_rsSyndrome ok)
  have remainder := allZeroFlag_rsRemainder (Nat.le_trans h32 (by decide)) (rsDataOf s)
  refine ⟨remainder.trans (allZeroFlag_rsSyndromes _ _).symm, ?_⟩
  simp only [remainder]
  exact ite_eq_left_iff.trans (by simp [vanishesAtRoots])

/-- Settles O39: the values at the roots of g_n fix rs_ec(D, n), which gives its first three
laws and the bytes of [1]. -/
theorem rsFunctionProperties : Obligations.RsFunctionProperties := by
  intro n h1 h32
  have hn : n ≤ 255 := Nat.le_trans h32 (by decide)
  refine ⟨fun k => ?zero, fun d d' hd => ?linear, fun z d => ?leadingZeros, fun d => ?codeword,
    ?one, genpoly_length n, by rw [genpoly_eq_one_cons]; rfl, fun i hi => ?roots⟩
  case zero =>
    refine rsEc_eq_of_evalPoly h1 hn List.length_replicate fun i _ => ?_
    rw [evalPoly_replicate_zero, evalPoly_replicate_zero, zero_gfMul]
  case linear =>
    have length := (rsEc_length d n h1).trans (rsEc_length d' n h1).symm
    refine rsEc_eq_of_evalPoly h1 hn (by simp [rsEc_length _ n h1]) fun i hi => ?_
    rw [evalPoly_zipWith_xor length, evalPoly_zipWith_xor hd, evalPoly_rsEc hi,
      evalPoly_rsEc hi, xor_gfMul]
  case leadingZeros =>
    refine rsEc_eq_of_evalPoly h1 hn (rsEc_length d n h1) fun i hi => ?_
    rw [evalPoly_replicate_zero_append, evalPoly_rsEc hi]
  case codeword =>
    have codeword := append_rsEc_vanishesAtRoots d n
    exact ⟨(rsRemainder_eq_zero_iff hn _).mpr codeword, (rsSyndromes_eq_zero_iff _ n).mpr codeword⟩
  case one =>
    refine rsEc_eq_of_evalPoly h1 hn (genpoly_tail_length n) fun i hi => ?_
    rw [evalPoly_genpoly_tail hi, evalPoly_cons, evalPoly_nil, List.length_nil, gfPow_zero,
      gfMul_one, byte_xor_zero, one_gfMul]
  case roots => rw [hornerAt_eq_evalPoly, genpoly_vanishesAtRoots n i hi]

end

section
/-! SUPPORT. The commands CLASSIFY and ANALYZE (43_analyzer.md): when the analyzer's
selection fails and with which error, and what the two commands write. -/

namespace Sys2Proof.Safety

open Sys2Proof.Machine Sys2Proof.Reference

/-! ## The selection of a version -/

/-- R243: the reserved band has no version. -/
theorem band_ne_three_of_versionFits {s : State} {p : List Byte} {v : Nat}
    (h : versionFits s p v) : s.config.band ≠ 3 := by
  intro hband
  obtain ⟨hlo, hhi, -⟩ := h
  have hrange : bandRange s.config.band = (1, 0) := congrArg bandRange hband
  rw [hrange] at hlo hhi
  omega

/-- R244: the least version that fits is unique. -/
theorem versionSelected_unique {s : State} {p : List Byte} {u v : Nat}
    (hu : versionSelected s p u) (hv : versionSelected s p v) : u = v :=
  Nat.le_antisymm (Nat.not_lt.mp fun h => hu.2 v h hv.1) (Nat.not_lt.mp fun h => hv.2 u h hu.1)

/-- R244: the scan visits every version that fits. -/
theorem not_versionFits_of_scanVersions_eq_none {s : State} {lo hi : Nat}
    (hlo : bandMin s.config.band = some lo) (hhi : bandMax s.config.band = some hi)
    (hscan : scanVersions (classify s.payload) s.config.ecl (max lo s.config.minver.toNat) hi =
      none) (v : Nat) : ¬ versionFits s (payloadOf s) v := by
  rintro ⟨hfirst, hlast, hmin, hbits⟩
  rw [(bandRange_eq hlo hhi).1] at hfirst hlast
  obtain ⟨h1, -, h40⟩ := band_range hlo hhi
  have visited : v ∈ List.range' (max lo s.config.minver.toNat)
      (hi + 1 - max lo s.config.minver.toNat) := by
    rw [List.mem_range'_1]
    omega
  have refused := List.find?_eq_none.mp hscan v visited
  rw [decide_eq_true_eq, requiredBits_eq_bitsNeeded _ (h1.trans hfirst) (hlast.trans h40),
    payload_eq_payloadOf] at refused
  exact refused hbits

/-- The selection fails for the reserved band, else for a payload beyond the input limit or
one that no version holds (R240, R241, R244). -/
theorem selectVersion_error {s : State} {e : ErrCode} (h : selectVersion s = .error e) :
    (s.config.band = 3 ∧ e = .illegalConfig) ∨
      (s.config.band ≠ 3 ∧ e = .payloadTooLarge ∧
        (8192 < s.payloadLen.toNat ∨ ∀ v, ¬ versionFits s (payloadOf s) v)) := by
  unfold selectVersion at h
  split at h
  next lo hi hlo hhi =>
    refine .inr ⟨(bandRange_eq hlo hhi).2, ?_⟩
    split at h
    next hlong =>
      cases h
      exact ⟨rfl, .inl (of_decide_eq_true hlong)⟩
    next =>
      dsimp only at h
      split at h
      next => cases h
      next hscan =>
        cases h
        exact ⟨rfl, .inr (not_versionFits_of_scanVersions_eq_none hlo hhi hscan)⟩
  next hnone =>
    cases h
    have table : ∀ b : BitVec 2, b = 3 ∨
        bandMin b = some (bandRange b).1 ∧ bandMax b = some (bandRange b).2 := by decide
    obtain hband | ⟨hlo, hhi⟩ := table s.config.band
    · exact .inl ⟨hband, rfl⟩
    · exact (hnone _ _ hlo hhi).elim

/-- What holds where the selection succeeds (R240, R241, R244). -/
theorem selectVersion_ok_selected {s : State} {p : List Byte} {a : Analysis} {v : Nat}
    (h : selectVersion s = .ok (p, a, v)) :
    p = s.payload ∧ a = classify p ∧ s.payloadLen.toNat ≤ 8192 ∧
      versionSelected s (payloadOf s) v := by
  obtain ⟨hp, ha, hfits, -⟩ := selectVersion_ok h
  exact ⟨hp, ha, tooLong_eq_false hfits, selectVersion_selects h⟩

/-- The selection finds the least version that fits (R244). -/
theorem selectVersion_of_versionSelected {s : State} {v : Nat}
    (hlen : s.payloadLen.toNat ≤ 8192) (hv : versionSelected s (payloadOf s) v) :
    selectVersion s = .ok (s.payload, classify s.payload, v) := by
  cases h : selectVersion s with
  | error e =>
    obtain ⟨hband, -⟩ | ⟨-, -, hlong | hnone⟩ := selectVersion_error h
    · exact absurd hband (band_ne_three_of_versionFits hv.1)
    · omega
    · exact absurd hv.1 (hnone v)
  | ok r =>
    obtain ⟨p, a, w⟩ := r
    obtain ⟨rfl, rfl, -, hw⟩ := selectVersion_ok_selected h
    rw [versionSelected_unique hw hv]

/-! ## Errors -/

/-- R411: the error of a command that sends STAGE to IDLE. -/
theorem fail_eq_errorState_idle {i : Instr} (hidle : errorToIdle i = true) (e : ErrCode)
    (s : State) : s.fail i e = errorState i e .idle s := by
  simp only [State.fail, State.raise, hidle, if_true]
  rfl

/-- R240, R241, R244: a command that selects a version first raises the analyzer's errors. -/
theorem analyzerErrors_of_ruleOf {i : Instr} {f : State → List Byte × Analysis × Nat → State}
    (hidle : errorToIdle i = true) (rule : ∀ s, ruleOf i s = (selectVersion s).map (f s)) :
    analyzerErrors i := by
  have raises {s : State} {e : ErrCode} (h : selectVersion s = .error e) :
      exec i s = .next (errorState i e .idle s) := by
    rw [← fail_eq_errorState_idle hidle]
    exact exec_of_ruleOf_error ((rule s).trans (exceptMap_eq_error_iff.mpr h))
  refine fun s => ⟨fun hband => raises ?_, fun hband hlarge => raises ?_⟩
  · cases h : selectVersion s with
    | error e =>
      obtain ⟨-, rfl⟩ | ⟨hne, -⟩ := selectVersion_error h
      · rfl
      · exact absurd hband hne
    | ok r =>
      obtain ⟨-, -, -, hsel⟩ := selectVersion_ok_selected h
      exact absurd hband (band_ne_three_of_versionFits hsel.1)
  · cases h : selectVersion s with
    | error e =>
      obtain ⟨heq, -⟩ | ⟨-, rfl, -⟩ := selectVersion_error h
      · exact absurd heq hband
      · rfl
    | ok r =>
      obtain ⟨-, -, hlen, hsel⟩ := selectVersion_ok_selected h
      obtain hlong | hnone := hlarge
      · omega
      · exact absurd hsel.1 (hnone _)

/-! ## What the commands write -/

theorem classify_indicator (s : State) :
    (classify s.payload).mode.indicator = BitVec.ofNat 4 (modeCode (textMode (payloadOf s))) := by
  rw [← classify_mode, BitVec.ofNat_toNat, BitVec.setWidth_eq]

theorem classify_pbits (s : State) :
    (classify s.payload).pbits = textBits (textMode (payloadOf s)) s.payloadLen.toNat := by
  rw [← payload_eq_payloadOf, ← modeOf_eq_textMode, ← payloadBits_eq_textBits,
    ← payload_length]
  rfl

/-- R237: the classification of the payload as the registers hold it. -/
theorem writeClass_classify (s : State) : writeClass (classify s.payload) s = { s with
    arMode := { mode := BitVec.ofNat 4 (modeCode (textMode (payloadOf s)))
                eci := textEci (payloadOf s) }
    arCount := s.payloadLen
    arPbits := BitVec.ofNat 17 (textBits (textMode (payloadOf s)) s.payloadLen.toNat) } := by
  rw [writeClass, classify_indicator, classify_eci, classify_count, classify_pbits]

theorem exec_classify_of_fits {s : State} (h : tooLong s = false) :
    exec .classify s = .next (writeClass (classify s.payload) s).drawn.complete := by
  have rule : ruleOf .classify s = .ok (writeClass (classify s.payload) s).drawn :=
    if_neg (Bool.eq_false_iff.mp h)
  rw [exec_eq_runCommand, runCommand_ok rule]

theorem exec_analyze_of_selected {s : State} {v : Nat}
    (h : selectVersion s = .ok (s.payload, classify s.payload, v)) :
    exec .analyze s = .next (writeAnalysis (classify s.payload) v s).drawn.complete := by
  have rule : ruleOf .analyze s = .ok (writeAnalysis (classify s.payload) v s).drawn :=
    exceptMap_eq_ok_iff.mpr ⟨_, h, rfl⟩
  rw [exec_eq_runCommand, runCommand_ok rule]

end Sys2Proof.Safety
end

section

open Sys2Proof Sys2Proof.Machine Sys2Proof.Reference Sys2Proof.Safety

/-- Settles O43: an error of the selection is an error of ANALYZE, and the scan finds the
least version that fits. -/
theorem analyzeSelectsLeastVersion : Obligations.AnalyzeSelectsLeastVersion := by
  refine ⟨analyzerErrors_of_ruleOf rfl fun _ => rfl, fun s v hlen hv => ?_⟩
  have hsel := selectVersion_of_versionSelected hlen hv
  obtain ⟨h1, h40⟩ := selectVersion_range hsel
  rw [exec_analyze_of_selected hsel, writeAnalysis, writeClass_classify,
    requiredBits_eq_bitsNeeded _ h1 h40, payload_eq_payloadOf]
  rfl

/-- Settles O42: the machine's classification is Reference's, and the length is tested
first. -/
theorem classifyWritesClassification : Obligations.ClassifyWritesClassification := by
  refine ⟨fun s hlen => ?_, fun s hlong => ?_⟩
  · have fits : tooLong s = false := decide_eq_false (Nat.not_lt.mpr hlen)
    rw [exec_classify_of_fits fits, writeClass_classify]
    rfl
  · have raises : ruleOf .classify s = .error .payloadTooLarge := if_pos (decide_eq_true hlong)
    rw [exec_of_ruleOf_error raises, fail_eq_errorState rfl rfl]

end

section
/-! SUPPORT. The serializer (44_bitstream.md): the bits that fields make and the number that
bits make, the machine's stream as the fields of R262-R266, and how long the stream is. -/

namespace Sys2Proof.Machine

open Sys2Proof.Reference Sys2Proof.Safety

/-! ## The number that bits make -/

/-- The number that bits make, first bit on top (R261). -/
def bitsValue (bs : List Bool) : Nat := bs.foldl (fun n b => 2 * n + b.toNat) 0

theorem bitsValue_nil : bitsValue [] = 0 := rfl

theorem foldl_bits (n : Nat) (bs : List Bool) :
    bs.foldl (fun n b => 2 * n + b.toNat) n = n * 2 ^ bs.length + bitsValue bs := by
  induction bs generalizing n with
  | nil => simp [bitsValue_nil]
  | cons b bs ih =>
    rw [bitsValue, List.foldl_cons, List.foldl_cons, ih, ih (2 * 0 + b.toNat), List.length_cons]
    ring

theorem bitsValue_append (as bs : List Bool) :
    bitsValue (as ++ bs) = bitsValue as * 2 ^ bs.length + bitsValue bs := by
  rw [bitsValue, List.foldl_append, ← bitsValue, foldl_bits]

theorem bitsValue_cons (b : Bool) (bs : List Bool) :
    bitsValue (b :: bs) = b.toNat * 2 ^ bs.length + bitsValue bs := by
  rw [bitsValue, List.foldl_cons, foldl_bits, Nat.mul_zero, Nat.zero_add]

theorem bitsValue_lt (bs : List Bool) : bitsValue bs < 2 ^ bs.length := by
  induction bs with
  | nil => decide
  | cons b bs ih =>
    have top : b.toNat * 2 ^ bs.length ≤ 1 * 2 ^ bs.length :=
      Nat.mul_le_mul_right _ b.toNat_le
    rw [bitsValue_cons, List.length_cons, Nat.pow_succ]
    omega

/-- R261: `put(val, w)` appends the low w bits of val. -/
theorem bitsValue_putBits (val w : Nat) : bitsValue (putBits val w) = val % 2 ^ w := by
  induction w with
  | zero => rw [putBits, bitsValue_nil, Nat.pow_zero, Nat.mod_one]
  | succ w ih =>
    rw [putBits, bitsValue_cons, ih, putBits_length, Nat.mod_pow_succ, Nat.toNat_testBit,
      Nat.mul_comm, Nat.add_comm]

theorem byteOfBits_toNat {bs : List Bool} (h : bs.length = 8) :
    (byteOfBits bs).toNat = bitsValue bs :=
  toNat_ofNat_of_lt (h ▸ bitsValue_lt bs)

/-- R267: packing bits into bytes keeps the number, whatever number `n` stands before them. -/
theorem foldl_packBits (n : Nat) {d : Nat} {bs : List Bool} (h : bs.length = 8 * d) :
    (packBits d bs).foldl (fun n b => 256 * n + b.toNat) n =
      bs.foldl (fun n b => 2 * n + b.toNat) n := by
  induction d generalizing n bs with
  | zero => rw [List.length_eq_zero_iff.mp h, packBits, List.foldl_nil, List.foldl_nil]
  | succ d ih =>
    have first : (bs.take 8).length = 8 := by rw [List.length_take]; omega
    have rest : (bs.drop 8).length = 8 * d := by rw [List.length_drop]; omega
    have shift : 256 * n = n * 2 ^ 8 := Nat.mul_comm 256 n
    calc (packBits (d + 1) bs).foldl (fun n b => 256 * n + b.toNat) n
      _ = (bs.drop 8).foldl (fun n b => 2 * n + b.toNat)
            (256 * n + (byteOfBits (bs.take 8)).toNat) := ih _ rest
      _ = (bs.drop 8).foldl (fun n b => 2 * n + b.toNat)
            ((bs.take 8).foldl (fun n b => 2 * n + b.toNat) n) := by
          rw [foldl_bits n, byteOfBits_toNat first, first, shift]
      _ = bs.foldl (fun n b => 2 * n + b.toNat) n := by
          rw [← List.foldl_append, List.take_append_drop]

theorem bytesValue_packBits {d : Nat} {bs : List Bool} (h : bs.length = 8 * d) :
    bytesValue (packBits d bs) = bitsValue bs :=
  foldl_packBits 0 h

/-! ## The bits of fields -/

/-- The bits that fields written one after the other make (R261). -/
def fieldsBits (fs : List Field) : List Bool := fs.flatMap fun f => putBits f.1 f.2

/-- The value of every field fits its width (R261). -/
def FieldsFit (fs : List Field) : Prop := ∀ f ∈ fs, f.1 < 2 ^ f.2

@[simp] theorem fieldsBits_nil : fieldsBits [] = [] := rfl

@[simp] theorem fieldsBits_cons (f : Field) (fs : List Field) :
    fieldsBits (f :: fs) = putBits f.1 f.2 ++ fieldsBits fs := List.flatMap_cons

theorem fieldsBits_singleton (f : Field) : fieldsBits [f] = putBits f.1 f.2 :=
  List.flatMap_singleton ..

@[simp] theorem fieldsBits_append (fs gs : List Field) :
    fieldsBits (fs ++ gs) = fieldsBits fs ++ fieldsBits gs := List.flatMap_append

@[simp] theorem fieldsBits_length (fs : List Field) : (fieldsBits fs).length = fieldsWidth fs := by
  simp [fieldsBits, fieldsWidth, List.length_flatMap]

@[simp] theorem fieldsWidth_append (fs gs : List Field) :
    fieldsWidth (fs ++ gs) = fieldsWidth fs + fieldsWidth gs := by
  simp [fieldsWidth]

theorem FieldsFit.append {fs gs : List Field} (hf : FieldsFit fs) (hg : FieldsFit gs) :
    FieldsFit (fs ++ gs) := List.forall_mem_append.mpr ⟨hf, hg⟩

/-- Fields that fit make the number that their bits make. -/
theorem FieldsFit.bitsValue_fieldsBits {fs : List Field} (h : FieldsFit fs) :
    bitsValue (fieldsBits fs) = fieldsValue fs := by
  induction fs using List.reverseRecOn with
  | nil => rfl
  | append_singleton fs f ih =>
    obtain ⟨hfs, hf⟩ := List.forall_mem_append.mp h
    have last : bitsValue (putBits f.1 f.2) = f.1 := by
      rw [bitsValue_putBits, Nat.mod_eq_of_lt (hf f (List.mem_singleton_self f))]
    have step : fieldsValue (fs ++ [f]) = fieldsValue fs * 2 ^ f.2 + f.1 := by
      rw [fieldsValue, List.foldl_append]
      rfl
    rw [fieldsBits_append, bitsValue_append, ih hfs, step, fieldsBits_singleton, last,
      putBits_length]

/-! ## The header -/

theorem ofIndicator_of_toNat {b : BitVec 4} {m : Mode} (h : b.toNat = modeCode m) :
    Mode.ofIndicator b = m := by
  obtain rfl : b = BitVec.ofNat 4 (modeCode m) := by
    rw [← h, BitVec.ofNat_toNat, BitVec.setWidth_eq]
  cases m <;> rfl

/-- R262: the machine's header is the header fields. -/
theorem headerBits_eq_fieldsBits {mode : BitVec 4} {m : Mode} {v : Nat} (eci : Bool)
    (count : Nat) (hmode : mode.toNat = modeCode m) (h1 : 1 ≤ v) (h40 : v ≤ 40) :
    headerBits mode eci count v = fieldsBits (headerFields m eci count v) := by
  rw [headerBits, ofIndicator_of_toNat hmode, hmode, ccwRom_eq_countWidth m h1 h40]
  cases eci <;> simp [headerFields, eciIndicator, eciDesignator]

theorem headerFields_fit {m : Mode} {count v : Nat} (eci : Bool)
    (hcount : count < 2 ^ countWidth m v) : FieldsFit (headerFields m eci count v) := by
  have mode : modeCode m < 2 ^ 4 := by cases m <;> decide
  refine .append ?_ (List.forall_mem_cons.mpr ⟨mode, List.forall_mem_singleton.mpr hcount⟩)
  cases eci
  · exact nofun
  · exact (by decide : ∀ f ∈ [((0b0111, 4) : Field), (26, 8)], f.1 < 2 ^ f.2)

/-! ## Groups of characters -/

theorem mem_of_mem_group {k i : Nat} {p : List Byte} {b : Byte} (h : b ∈ group k p i) : b ∈ p :=
  List.mem_of_mem_drop (List.mem_of_mem_take h)

theorem group_length_le (k : Nat) (p : List Byte) (i : Nat) : (group k p i).length ≤ k :=
  List.length_take_le _ _

/-- The groups of a payload are its first characters and the groups of the rest. -/
theorem map_group_eq_cons {α : Type} (f : List Byte → α) (k : Nat) {p : List Byte}
    (hp : p ≠ []) :
    ((List.range ((p.length + k) / (k + 1))).map fun i => f (group (k + 1) p i)) =
      f (p.take (k + 1)) :: (List.range (((p.drop (k + 1)).length + k) / (k + 1))).map fun i =>
        f (group (k + 1) (p.drop (k + 1)) i) := by
  have count : (p.length + k) / (k + 1) = ((p.drop (k + 1)).length + k) / (k + 1) + 1 := by
    have nonempty : 0 < p.length := List.length_pos_iff.mpr hp
    rw [← Nat.add_div_right _ (Nat.succ_pos k), List.length_drop]
    obtain h | h := Nat.le_total (k + 1) p.length
    · congr 1
      omega
    · rw [Nat.sub_eq_zero_of_le h, Nat.div_eq_of_lt_le (k := 1), Nat.div_eq_of_lt_le (k := 1)]
        <;> omega
  have later (i : Nat) : group (k + 1) p (i + 1) = group (k + 1) (p.drop (k + 1)) i := by
    rw [group, group, List.drop_drop, Nat.mul_succ, Nat.add_comm (k + 1)]
  rw [count, List.range_succ_eq_map, List.map_cons, List.map_map]
  simp only [Function.comp_def, later]
  rfl

/-- The number that k digits to a base make has k digits to that base. -/
theorem foldl_digits_lt {base : Nat} {digit : Byte → Nat} {g : List Byte}
    (h : ∀ b ∈ g, digit b < base) :
    g.foldl (fun n b => base * n + digit b) 0 < base ^ g.length := by
  induction g using List.reverseRecOn with
  | nil => simp
  | append_singleton g b ih =>
    obtain ⟨hg, hb⟩ := List.forall_mem_append.mp h
    have last := List.forall_mem_singleton.mp hb
    have first := Nat.mul_le_mul_left base (Nat.succ_le_of_lt (ih hg))
    rw [List.foldl_append, List.length_append, List.length_singleton, Nat.pow_succ',
      List.foldl_cons, List.foldl_nil]
    rw [Nat.mul_succ] at first
    omega

/-! ## The payload -/

theorem isNumericText_of_textMode {p : List Byte} (h : textMode p = .numeric) :
    isNumericText p := by
  unfold textMode at h
  split_ifs at h
  assumption

theorem isAlnumText_of_textMode {p : List Byte} (h : textMode p = .alphanumeric) :
    isAlnumText p := by
  unfold textMode at h
  split_ifs at h
  assumption

theorem payloadFields_nil (m : Mode) : payloadFields m [] = [] := by
  cases m <;> rfl

theorem payloadFields_numeric_eq_cons {p : List Byte} (hp : p ≠ []) :
    payloadFields .numeric p =
      (decimal (p.take 3), [0, 4, 7, 10].getD (p.take 3).length 0) ::
        payloadFields .numeric (p.drop 3) :=
  map_group_eq_cons (fun g => (decimal g, [0, 4, 7, 10].getD g.length 0)) 2 hp

theorem payloadFields_alphanumeric_eq_cons {p : List Byte} (hp : p ≠ []) :
    payloadFields .alphanumeric p =
      (base45 (p.take 2), [0, 6, 11].getD (p.take 2).length 0) ::
        payloadFields .alphanumeric (p.drop 2) :=
  map_group_eq_cons (fun g => (base45 g, [0, 6, 11].getD g.length 0)) 1 hp

theorem digitValue_of_le {b : Byte} (h : 0x30 ≤ b.toNat) : digitValue b = b.toNat - 0x30 :=
  if_pos h

theorem alnumValue_of_mem {b : Byte} (h : b ∈ alphabet) : alnumValue b = alphabet.idxOf b := by
  have table : ∀ b : Byte, b ∈ alphabet → alnumRom b = some (alphabet.idxOf b) := by
    decide +kernel
  rw [alnumValue, table b h, Option.getD_some]

/-- R263: groups of three digits. -/
theorem numericBits_eq_fieldsBits {p : List Byte} (h : ∀ b ∈ p, 0x30 ≤ b.toNat) :
    numericBits p = fieldsBits (payloadFields .numeric p) := by
  induction p using numericBits.induct with
  | case1 a b c rest ih =>
    simp only [List.forall_mem_cons] at h
    obtain ⟨ha, hb, hc, hrest⟩ := h
    have value : 100 * digitValue a + 10 * digitValue b + digitValue c = decimal [a, b, c] := by
      simp only [digitValue_of_le, ha, hb, hc, decimal, List.foldl_cons, List.foldl_nil]
      omega
    rw [numericBits, ih hrest, value, payloadFields_numeric_eq_cons (List.cons_ne_nil a _)]
    rfl
  | case2 a b =>
    simp only [List.forall_mem_cons] at h
    have value : 10 * digitValue a + digitValue b = decimal [a, b] := by
      simp [digitValue_of_le, h, decimal]
    simp [numericBits, value, payloadFields_numeric_eq_cons, payloadFields_nil]
  | case3 a =>
    have value : digitValue a = decimal [a] := by
      simp [digitValue_of_le, h, decimal]
    simp [numericBits, value, payloadFields_numeric_eq_cons, payloadFields_nil]
  | case4 => rw [payloadFields_nil]; rfl

/-- R264: pairs of characters. -/
theorem alnumBits_eq_fieldsBits {p : List Byte} (h : ∀ b ∈ p, b ∈ alphabet) :
    alnumBits p = fieldsBits (payloadFields .alphanumeric p) := by
  induction p using alnumBits.induct with
  | case1 a b rest ih =>
    simp only [List.forall_mem_cons] at h
    obtain ⟨ha, hb, hrest⟩ := h
    have value : 45 * alnumValue a + alnumValue b = base45 [a, b] := by
      simp [alnumValue_of_mem, ha, hb, base45]
    rw [alnumBits, ih hrest, value, payloadFields_alphanumeric_eq_cons (List.cons_ne_nil a _)]
    rfl
  | case2 a =>
    have value : alnumValue a = base45 [a] := by
      simp [alnumValue_of_mem, h, base45]
    simp [alnumBits, value, payloadFields_alphanumeric_eq_cons, payloadFields_nil]
  | case3 => rw [payloadFields_nil]; rfl

/-- R265: one field per byte. -/
theorem byteBits_eq_fieldsBits (p : List Byte) :
    byteBits p = fieldsBits (payloadFields .byte p) := by
  rw [byteBits, fieldsBits, payloadFields, List.flatMap_map]

/-- R263-R265: the machine's payload bits are the payload fields. -/
theorem payloadBitString_eq_fieldsBits (p : List Byte) :
    payloadBitString (textMode p) p = fieldsBits (payloadFields (textMode p) p) := by
  cases h : textMode p with
  | numeric => exact numericBits_eq_fieldsBits fun b hb =>
      ((isNumericText_of_textMode h).2 b hb).1
  | alphanumeric => exact alnumBits_eq_fieldsBits (isAlnumText_of_textMode h).2
  | byte => exact byteBits_eq_fieldsBits p

theorem decimal_lt {g : List Byte} (h : ∀ b ∈ g, b.toNat ≤ 0x39) : decimal g < 10 ^ g.length :=
  foldl_digits_lt fun b hb => by
    have := h b hb
    omega

theorem base45_lt {g : List Byte} (h : ∀ b ∈ g, b ∈ alphabet) : base45 g < 45 ^ g.length :=
  foldl_digits_lt fun b hb => List.idxOf_lt_length_of_mem (h b hb)

/-- R263-R265: the fields of a payload in its own mode fit. -/
theorem payloadFields_fit (p : List Byte) : FieldsFit (payloadFields (textMode p) p) := by
  cases h : textMode p with
  | numeric =>
    intro f hf
    obtain ⟨i, -, rfl⟩ := List.mem_map.mp hf
    have width : ∀ n < 4, 10 ^ n ≤ 2 ^ [0, 4, 7, 10].getD n 0 := by decide
    have digits : ∀ b ∈ group 3 p i, b.toNat ≤ 0x39 := fun b hb =>
      ((isNumericText_of_textMode h).2 b (mem_of_mem_group hb)).2
    exact (decimal_lt digits).trans_le (width _ (Nat.lt_succ_of_le (group_length_le 3 p i)))
  | alphanumeric =>
    intro f hf
    obtain ⟨i, -, rfl⟩ := List.mem_map.mp hf
    have width : ∀ n < 3, 45 ^ n ≤ 2 ^ [0, 6, 11].getD n 0 := by decide
    have characters : ∀ b ∈ group 2 p i, b ∈ alphabet := fun b hb =>
      (isAlnumText_of_textMode h).2 b (mem_of_mem_group hb)
    exact (base45_lt characters).trans_le (width _ (Nat.lt_succ_of_le (group_length_le 2 p i)))
  | byte =>
    intro f hf
    obtain ⟨b, -, rfl⟩ := List.mem_map.mp hf
    exact b.isLt

/-! ## Terminator and padding -/

/-- R266: the pad codewords are the two constants in turn. -/
theorem padCodewords_eq_fieldsBits (n : Nat) :
    padCodewords n = fieldsBits ((List.range n).map fun k =>
      (if k % 2 = 0 then 0xEC else 0x11, 8)) := by
  induction n using padCodewords.induct with
  | case1 | case2 => rfl
  | case3 n ih =>
    rw [List.range_succ_eq_map, List.range_succ_eq_map]
    simp [padCodewords, ih, Function.comp_def, Nat.add_assoc]

theorem putBits_zero (w : Nat) : putBits 0 w = List.replicate w false := by
  induction w with
  | zero => rfl
  | succ w ih => rw [putBits, ih, Nat.zero_testBit, List.replicate_succ]

/-- R266: the machine pads a stream with the fields of Reference. -/
theorem padStream_eq_append (bits : List Bool) (cap : Nat) :
    padStream bits cap = bits ++ fieldsBits (padFields bits.length cap) := by
  simp [padStream, padFields, terminatorBits, boundaryBits, padCodewords_eq_fieldsBits,
    putBits_zero, Nat.sub_sub, Nat.add_assoc, -List.replicate_append_replicate]

theorem padFields_fit (len cap : Nat) : FieldsFit (padFields len cap) := by
  refine .append (fun f hf => ?_) fun f hf => ?_
  · simp only [List.mem_cons, List.not_mem_nil, or_false] at hf
    obtain rfl | rfl := hf <;> exact Nat.two_pow_pos _
  · obtain ⟨k, -, rfl⟩ := List.mem_map.mp hf
    dsimp only
    split_ifs <;> decide

/-- R266: the padding ends exactly at the capacity. -/
theorem fieldsWidth_padFields {len d : Nat} (h : len ≤ 8 * d) :
    len + fieldsWidth (padFields len (8 * d)) = 8 * d := by
  simp [padFields, fieldsWidth, Function.comp_def]
  omega

/-! ## ENCODE_DATA -/

/-- R262-R266: the machine's padded stream is the stream of Reference. -/
theorem padStream_unpaddedStream {s : State} {p : List Byte} (h1 : 1 ≤ s.version)
    (h40 : s.version ≤ 40) (hmode : s.arMode.mode.toNat = modeCode (textMode p)) (cap : Nat) :
    padStream (unpaddedStream s p) cap = fieldsBits
      (streamFields (textMode p) s.arMode.eci s.arCount.toNat s.version cap p) := by
  have stream : unpaddedStream s p = fieldsBits
      (headerFields (textMode p) s.arMode.eci s.arCount.toNat s.version ++
        payloadFields (textMode p) p) := by
    rw [unpaddedStream, ofIndicator_of_toNat hmode, payloadBitString_eq_fieldsBits,
      headerBits_eq_fieldsBits _ _ hmode h1 h40, fieldsBits_append]
  rw [padStream_eq_append, stream, fieldsBits_length, streamFields,
    fieldsBits_append _ (padFields ..)]

theorem streamFields_fit {p : List Byte} {count v : Nat} (eci : Bool) (cap : Nat)
    (hcount : count < 2 ^ countWidth (textMode p) v) :
    FieldsFit (streamFields (textMode p) eci count v cap p) :=
  ((headerFields_fit eci hcount).append (payloadFields_fit p)).append (padFields_fit _ _)

/-- R267: a stream that fits takes the capacity exactly. -/
theorem fieldsWidth_streamFields {m : Mode} {eci : Bool} {count v d : Nat} {p : List Byte}
    (h : fieldsWidth (headerFields m eci count v ++ payloadFields m p) ≤ 8 * d) :
    fieldsWidth (streamFields m eci count v (8 * d) p) = 8 * d :=
  (fieldsWidth_append _ _).trans (fieldsWidth_padFields h)

/-- R395: a command whose rule is tied to stage `g` raises PHASE_ORDER in every other one. -/
theorem phaseErrors_of_ruleOf {i : Instr} {g : Stage} {f : State → State}
    (hidle : errorToIdle i = false) (hreads : readsBeforeError i = false)
    (rule : ∀ s, ruleOf i s = inStage g f s) : phaseErrors i g := by
  intro s hs
  rw [← fail_eq_errorState hidle hreads]
  exact exec_of_ruleOf_error ((rule s).trans (inStage_eq_error_iff.mpr ⟨hs, rfl⟩))

/-- R260: ENCODE_DATA in its own stage. -/
theorem exec_encodeData {s : State} (hs : s.status.stage = .analyzed) :
    exec .encodeData s = .next { s with
      mem := Memory.store s.mem 0x04000 (dataCodewords s (payloadOf s))
      dcwLen := BitVec.ofNat 12 (dataBytes (blockRom s.version s.config.ecl))
      draws := s.draws + 1, status := stagedStatus .encoded s } := by
  have rule : ruleOf .encodeData s = .ok (encodeData s.payload s).drawn :=
    if_pos hs
  rw [exec_eq_runCommand, runCommand_ok rule, payload_eq_payloadOf,
    ← dataCodewords_length s (payloadOf s)]
  rfl

end Sys2Proof.Machine
end

section

open Sys2Proof Sys2Proof.Machine Sys2Proof.Reference Sys2Proof.Safety

/-- Settles O44: the stream is the bits of fields that fit and take 8·D bits, and packing keeps
the number that they make. -/
theorem encodeDataStoresPaddedStream : Obligations.EncodeDataStoresPaddedStream := by
  refine ⟨phaseErrors_of_ruleOf rfl rfl fun _ => rfl, fun s hs h1 h40 => ?_⟩
  intro p d header fields hmode hcount hfit
  have width : fieldsWidth fields = 8 * d := fieldsWidth_streamFields hfit
  have codewords : dataCodewords s p = packBits d (fieldsBits fields) :=
    congrArg (packBits d) (padStream_unpaddedStream h1 h40 hmode (8 * d))
  have value : bytesValue (dataCodewords s p) = fieldsValue fields := by
    rw [codewords, bytesValue_packBits ((fieldsBits_length fields).trans width),
      (streamFields_fit _ _ hcount).bitsValue_fieldsBits]
  exact ⟨dataCodewords s p, _, exec_encodeData hs, dataCodewords_length s p, width, value,
    storesExactly_store _ _ _⟩

end

section
/-! SUPPORT. The interleaver (45_interleave.md): the blocks that R281 cuts, the columns of R283
as runs of equal length, and where each byte of a block stands in the final codewords. -/

namespace Sys2Proof.Machine

open Sys2Proof.Reference Sys2Proof.Safety

/-! ## The blocks -/

theorem getElem?_cutBlocks (size : Nat) {count k : Nat} (hk : k < count) (d : List Byte) :
    (cutBlocks size count d)[k]? = some ((d.drop (k * size)).take size) := by
  induction count generalizing k d with
  | zero => omega
  | succ count ih =>
    rw [cutBlocks]
    cases k with
    | zero => simp
    | succ k =>
      rw [List.getElem?_cons_succ, ih (by omega), List.drop_drop, Nat.succ_mul, Nat.add_comm]

/-- Data block `k` of the data codewords `d` (R281). -/
def dataBlock (b : BlockEntry) (d : List Byte) (k : Nat) : List Byte :=
  (d.drop (blockStart b k)).take (blockLen b k)

theorem getElem?_dataBlock {b : BlockEntry} (d : List Byte) {k col : Nat}
    (hcol : col < blockLen b k) : (dataBlock b d k)[col]? = d[blockStart b k + col]? := by
  rw [dataBlock, List.getElem?_take_of_lt hcol, List.getElem?_drop]

/-- The two groups of R281 have their numbers of blocks, each of its group's size. -/
theorem splitBlocks_groups {b : BlockEntry} {d : List Byte} (hd : d.length = dataBytes b) :
    ∃ g1 g2, splitBlocks b d = g1 ++ g2 ∧
      (g1.length = b.count1 ∧ ∀ blk ∈ g1, blk.length = b.data1) ∧
      (g2.length = b.count2 ∧ ∀ blk ∈ g2, blk.length = b.data2) := by
  rw [dataBytes] at hd
  exact ⟨_, _, rfl, cutBlocks_spec _ _ _ (by omega),
    cutBlocks_spec _ _ _ (by rw [List.length_drop]; omega)⟩

theorem splitBlocks_length {b : BlockEntry} {d : List Byte} (hd : d.length = dataBytes b) :
    (splitBlocks b d).length = numBlocks b := by
  obtain ⟨g1, g2, split, ⟨len1, -⟩, len2, -⟩ := splitBlocks_groups hd
  rw [split, List.length_append, len1, len2, numBlocks]

theorem getElem?_splitBlocks {b : BlockEntry} {d : List Byte} (hd : d.length = dataBytes b)
    {k : Nat} (hk : k < numBlocks b) : (splitBlocks b d)[k]? = some (dataBlock b d k) := by
  rw [dataBytes] at hd
  rw [numBlocks] at hk
  have len1 := (cutBlocks_spec b.data1 b.count1 d (by omega)).1
  rw [splitBlocks, dataBlock, blockStart, blockLen]
  by_cases first : k < b.count1
  · rw [List.getElem?_append_left (by omega), getElem?_cutBlocks _ first, if_pos first,
      if_pos first]
  · rw [List.getElem?_append_right (by omega), len1, getElem?_cutBlocks _ (by omega),
      List.drop_drop, if_neg first, if_neg first]

theorem dataBlock_length {b : BlockEntry} {d : List Byte} (hd : d.length = dataBytes b)
    {k : Nat} (hk : k < numBlocks b) : (dataBlock b d k).length = blockLen b k := by
  have block := getElem?_splitBlocks hd hk
  obtain ⟨g1, g2, split, ⟨len1, all1⟩, -, all2⟩ := splitBlocks_groups hd
  rw [split] at block
  rw [blockLen]
  by_cases first : k < b.count1
  · rw [List.getElem?_append_left (by omega)] at block
    rw [if_pos first, all1 _ (List.mem_of_getElem? block)]
  · rw [List.getElem?_append_right (by omega)] at block
    rw [if_neg first, all2 _ (List.mem_of_getElem? block)]

/-! ## The columns -/

theorem interleaveColumns_succ (columns : Nat) (blocks : List (List Byte)) :
    interleaveColumns (columns + 1) blocks =
      interleaveColumns columns blocks ++ blocks.filterMap fun blk => blk[columns]? := by
  simp [interleaveColumns, List.range_succ]

/-- A column that every block reaches has one byte of each of them. -/
theorem column_eq_map {blocks : List (List Byte)} {col : Nat}
    (full : ∀ blk ∈ blocks, col < blk.length) :
    (blocks.filterMap fun blk => blk[col]?) = blocks.map fun blk => blk.getD col 0 := by
  rw [← List.filterMap_eq_map]
  refine List.filterMap_congr fun blk hblk => ?_
  simp [full blk hblk]

theorem getElem?_column {blocks : List (List Byte)} {col k : Nat} {blk : List Byte}
    (full : ∀ blk ∈ blocks, col < blk.length) (hk : blocks[k]? = some blk) :
    (blocks.filterMap fun blk => blk[col]?)[k]? = blk[col]? := by
  simp [column_eq_map full, hk, full blk (List.mem_of_getElem? hk)]

theorem interleaveColumns_length_of_full {columns : Nat} {blocks : List (List Byte)}
    (full : ∀ blk ∈ blocks, columns ≤ blk.length) :
    (interleaveColumns columns blocks).length = columns * blocks.length := by
  induction columns with
  | zero => simp [interleaveColumns]
  | succ columns ih =>
    rw [interleaveColumns_succ, List.length_append,
      ih fun blk hblk => Nat.le_of_succ_le (full blk hblk), column_eq_map full, List.length_map,
      Nat.succ_mul]

/-- After `col` columns that every block reaches, column `col` begins. -/
theorem getElem?_interleaveColumns {columns col j : Nat} {blocks : List (List Byte)} {x : Byte}
    (hcol : col < columns) (full : ∀ blk ∈ blocks, col ≤ blk.length)
    (hx : (blocks.filterMap fun blk => blk[col]?)[j]? = some x) :
    (interleaveColumns columns blocks)[col * blocks.length + j]? = some x := by
  induction columns with
  | zero => omega
  | succ columns ih =>
    rw [interleaveColumns_succ]
    obtain earlier | rfl : col < columns ∨ col = columns := by omega
    · have found := ih earlier
      rwa [List.getElem?_append_left (List.getElem?_eq_some_iff.mp found).1]
    · rw [← interleaveColumns_length_of_full full, List.getElem?_append_right (by omega),
        Nat.add_sub_cancel_left, hx]

/-- R283, R284: byte `col` of block `k`, in a column that every block reaches. -/
theorem getElem?_interleaveColumns_of_full {columns col k : Nat} {blocks : List (List Byte)}
    {blk : List Byte} (hcol : col < columns) (full : ∀ blk ∈ blocks, col < blk.length)
    (hk : blocks[k]? = some blk) :
    (interleaveColumns columns blocks)[col * blocks.length + k]? = blk[col]? := by
  have inside := List.getElem?_eq_getElem (full blk (List.mem_of_getElem? hk))
  rw [inside, getElem?_interleaveColumns hcol (fun blk hblk => (full blk hblk).le)
    ((getElem?_column full hk).trans inside)]

/-! ## The final codewords -/

/-- The EC blocks of R282. -/
def ecBlocks (b : BlockEntry) (d : List Byte) : List (List Byte) :=
  (splitBlocks b d).map fun blk => rsEc blk b.ec

theorem finalCodewords_eq_append (b : BlockEntry) (d : List Byte) :
    finalCodewords b d = interleaveColumns (max b.data1 b.data2) (splitBlocks b d) ++
      interleaveColumns b.ec (ecBlocks b d) := rfl

theorem length_of_mem_ecBlocks {b : BlockEntry} {d blk : List Byte} (hec : 1 ≤ b.ec)
    (h : blk ∈ ecBlocks b d) : blk.length = b.ec := by
  obtain ⟨data, -, rfl⟩ := List.mem_map.mp h
  exact rsEc_length data b.ec hec

section
variable {b : BlockEntry} {d : List Byte} {k col : Nat} (hd : d.length = dataBytes b)
include hd

theorem ecBlocks_length : (ecBlocks b d).length = numBlocks b :=
  List.length_map _ |>.trans (splitBlocks_length hd)

theorem interleaveColumns_splitBlocks_length :
    (interleaveColumns (max b.data1 b.data2) (splitBlocks b d)).length = dataBytes b := by
  obtain ⟨g1, g2, split, ⟨len1, all1⟩, len2, all2⟩ := splitBlocks_groups hd
  have fit : ∀ blk ∈ g1 ++ g2, blk.length ≤ max b.data1 b.data2 := List.forall_mem_append.mpr
    ⟨fun blk hblk => (all1 blk hblk).trans_le (Nat.le_max_left _ _),
      fun blk hblk => (all2 blk hblk).trans_le (Nat.le_max_right _ _)⟩
  rw [split, interleaveColumns_length _ _ fit, List.map_append, List.sum_append,
    sum_map_const _ _ _ all1, sum_map_const _ _ _ all2, len1, len2, dataBytes]

/-- A column below the first group's block size is full. -/
theorem getElem?_interleaveColumns_first (hk : k < numBlocks b) (hcol : col < b.data1)
    (second : b.count2 ≠ 0 → b.data2 = b.data1 + 1) :
    (interleaveColumns (max b.data1 b.data2) (splitBlocks b d))[col * numBlocks b + k]? =
      (dataBlock b d k)[col]? := by
  rw [← splitBlocks_length hd]
  refine getElem?_interleaveColumns_of_full (hcol.trans_le (Nat.le_max_left _ _)) ?_
    (getElem?_splitBlocks hd hk)
  obtain ⟨g1, g2, split, ⟨-, all1⟩, len2, all2⟩ := splitBlocks_groups hd
  rw [split]
  refine List.forall_mem_append.mpr ⟨fun blk hblk => (all1 blk hblk).symm ▸ hcol,
    fun blk hblk => ?_⟩
  have := second (len2 ▸ List.length_pos_of_mem hblk |>.ne')
  have := all2 blk hblk
  omega

/-- The column after those holds the last bytes of the second group's blocks. -/
theorem getElem?_interleaveColumns_last (hk : k < numBlocks b) (hfirst : b.count1 ≤ k)
    (second : b.data2 = b.data1 + 1) :
    (interleaveColumns (max b.data1 b.data2) (splitBlocks b d))[
        b.data1 * numBlocks b + (k - b.count1)]? = (dataBlock b d k)[b.data1]? := by
  have block := getElem?_splitBlocks hd hk
  obtain ⟨g1, g2, split, ⟨len1, all1⟩, len2, all2⟩ := splitBlocks_groups hd
  have full2 : ∀ blk ∈ g2, b.data1 < blk.length := fun blk hblk => by
    have := all2 blk hblk
    omega
  have full : ∀ blk ∈ splitBlocks b d, b.data1 ≤ blk.length := by
    rw [split]
    exact List.forall_mem_append.mpr ⟨fun blk hblk => (all1 blk hblk).ge,
      fun blk hblk => (full2 blk hblk).le⟩
  have exhausted : (g1.filterMap fun blk => blk[b.data1]?) = [] :=
    List.filterMap_eq_nil_iff.mpr fun blk hblk => List.getElem?_eq_none (all1 blk hblk).le
  rw [split, List.getElem?_append_right (len1 ▸ hfirst), len1] at block
  have inside := List.getElem?_eq_getElem (full2 _ (List.mem_of_getElem? block))
  rw [inside, ← splitBlocks_length hd]
  refine getElem?_interleaveColumns (by omega) full ?_
  rw [split, List.filterMap_append, exhausted, List.nil_append, getElem?_column full2 block, inside]

/-- R283: where byte `col` of data block `k` stands among the interleaved data. -/
theorem getElem?_interleaveColumns_dataPosition (hk : k < numBlocks b)
    (hcol : col < blockLen b k) (second : b.count2 ≠ 0 → b.data2 = b.data1 + 1) :
    (interleaveColumns (max b.data1 b.data2) (splitBlocks b d))[dataPosition b k col]? =
      (dataBlock b d k)[col]? := by
  rw [dataPosition, ← numBlocks]
  by_cases first : col < b.data1
  · rw [if_pos first, getElem?_interleaveColumns_first hd hk first second]
  · have hgroup : b.count1 ≤ k := by
      by_contra h
      rw [blockLen, if_pos (not_le.mp h)] at hcol
      exact first hcol
    have hdata2 := second (by rw [numBlocks] at hk; omega)
    have last : col = b.data1 := by
      rw [blockLen, if_neg hgroup.not_gt] at hcol
      omega
    rw [if_neg first, last, getElem?_interleaveColumns_last hd hk hgroup hdata2]

/-- R283: where byte `col` of data block `k` stands. -/
theorem getElem?_finalCodewords_dataPosition (hk : k < numBlocks b) (hcol : col < blockLen b k)
    (second : b.count2 ≠ 0 → b.data2 = b.data1 + 1) :
    (finalCodewords b d)[dataPosition b k col]? = d[blockStart b k + col]? := by
  have found := getElem?_interleaveColumns_dataPosition hd hk hcol second
  have inside := List.getElem?_eq_getElem ((dataBlock_length hd hk).symm ▸ hcol)
  have bound := (List.getElem?_eq_some_iff.mp (found.trans inside)).1
  rw [finalCodewords_eq_append, List.getElem?_append_left bound, found,
    getElem?_dataBlock d hcol]

/-- R284: where byte `col` of EC block `k` stands. -/
theorem getElem?_finalCodewords_ecPosition (hk : k < numBlocks b) (hcol : col < b.ec) :
    (finalCodewords b d)[ecPosition b k col]? = (rsEc (dataBlock b d k) b.ec)[col]? := by
  have block : (ecBlocks b d)[k]? = some (rsEc (dataBlock b d k) b.ec) := by
    rw [ecBlocks, List.getElem?_map, getElem?_splitBlocks hd hk, Option.map_some]
  have full : ∀ blk ∈ ecBlocks b d, col < blk.length := fun blk hblk =>
    (length_of_mem_ecBlocks (by omega) hblk).symm ▸ hcol
  have position : ecPosition b k col =
      (interleaveColumns (max b.data1 b.data2) (splitBlocks b d)).length +
        (col * (ecBlocks b d).length + k) := by
    rw [interleaveColumns_splitBlocks_length hd, ecBlocks_length hd, ecPosition, dataBytes,
      numBlocks, Nat.add_assoc _ _ k]
  rw [finalCodewords_eq_append, position, List.getElem?_append_right (by omega),
    Nat.add_sub_cancel_left, getElem?_interleaveColumns_of_full hcol full block]

end

/-- R280: INTERLEAVE in its own stage. -/
theorem exec_interleave {s : State} (hs : s.status.stage = .encoded) {f : List Byte}
    (hf : finalCodewords (blockRom s.version s.config.ecl)
      (bytesAt s 0x04000 (dataBytes (blockRom s.version s.config.ecl))) = f) :
    exec .interleave s = .next { s with
      mem := Memory.store s.mem 0x05000 f
      genCache := cacheGenerator (blockRom s.version s.config.ecl).ec s.genCache
      finalLen := BitVec.ofNat 12 f.length
      streamBits := BitVec.ofNat 16 (8 * f.length + remRom s.version)
      draws := s.draws + 1, status := stagedStatus .interleaved s } := by
  have rule : ruleOf .interleave s = .ok (interleave s).drawn := if_pos hs
  have read (n : Nat) : s.readBuf .dcw n = bytesAt s 0x04000 n := Memory.readBlock_eq ..
  rw [exec_eq_runCommand, runCommand_ok rule, ← hf, ← read]
  rfl

end Sys2Proof.Machine
end

section

open Sys2Proof Sys2Proof.Machine Sys2Proof.Reference Sys2Proof.Safety

/-- Settles O45: every column below the first group's block size has a byte of each block, and
each EC block completes its data block to a codeword. -/
theorem interleaveStoresCodewordColumns : Obligations.InterleaveStoresCodewordColumns := by
  refine ⟨phaseErrors_of_ruleOf rfl rfl fun _ => rfl, fun s hs h1 h40 => ?_⟩
  intro b dcw total
  obtain ⟨-, -, -, -, hec, -⟩ := blockRom_bounds h1 h40 s.config.ecl
  have second (h : b.count2 ≠ 0) : b.data2 = b.data1 + 1 :=
    (blockRom_secondGroup h1 h40 s.config.ecl).trans (if_neg h)
  have hd : dcw.length = dataBytes b := by simp [dcw, bytesAt, dataBytes]
  have hlen : (finalCodewords b dcw).length = total := finalCodewords_length b dcw hec hd
  refine ⟨finalCodewords b dcw, _, _, hlen ▸ exec_interleave hs rfl, hlen,
    storesExactly_store _ _ _,
    fun k hk col hcol => getElem?_finalCodewords_dataPosition hd hk hcol second,
    fun k hk => ⟨rsEc (dataBlock b dcw k) b.ec, rsEc_length _ _ hec,
      append_rsEc_vanishesAtRoots _ _,
      fun col hcol => getElem?_finalCodewords_ecPosition hd hk hcol⟩⟩

end

section
/-! SUPPORT. A square grid stored in the matrix memory (10_state.md R53), and what
MX_GEOMETRY does (46_matrix.md R300). -/

namespace Sys2Proof.Machine

open Sys2Proof.Reference Sys2Proof.Safety

theorem Grid.Square.length_of_mem {n : Nat} {g : Grid} (h : g.Square n) {row : List MCell}
    (hrow : row ∈ g) : row.length = n := by
  obtain ⟨i, hi⟩ := List.getElem?_of_mem hrow
  exact (h.row_length hi).2

/-- R53: a stored grid fills its own slots and no other offset. -/
theorem Grid.Square.storesGrid {n : Nat} {g : Grid} (h : g.Square n) (hn : n ≤ 256) (m : Memory) :
    StoresGrid m (Memory.storeRows m 0 g) n g.get := by
  refine ⟨fun r hr c hc => ?_, fun a ha => Memory.get?_storeRows_outside fun i row hi => ?_⟩
  · have hget := Memory.get?_storeRows m 0 g r c _ (fun row hrow => h.length_of_mem hrow ▸ hn)
      (h.getElem? hr hc)
    rwa [Nat.zero_add] at hget
  · obtain ⟨hin, hlen⟩ := h.row_length hi
    simp only [slotOffset, Region.base, Config.matrixStride, hlen]
    by_contra hrow
    exact ha i hin (a - (0x10000 + 256 * i)) (by omega) (by omega)

theorem Memory.get?_clearMatrix_window (m : Memory) {a : Nat} (h : 0x10000 ≤ a)
    (h' : a < 0x20000) : Memory.get? (Memory.clearMatrix m) a = some 0 := by
  rw [Memory.get?_clearMatrix, if_pos]
  simp only [Region.holds_iff, Region.base, Region.size, Config.matrixStride]
  omega

/-- R300: MX_GEOMETRY in its own stage. -/
theorem exec_mxGeometry {s : State} (hs : s.status.stage = .interleaved) :
    exec .mxGeometry s = .next { s with
      mem := Memory.storeRows (Memory.clearMatrix s.mem) 0 (geometryGrid s.version)
      mxn := 4 * s.version + 17, status := stagedStatus .geometry s } := by
  have rule : ruleOf .mxGeometry s = .ok (buildGeometry s) := if_pos hs
  rw [exec_eq_runCommand, runCommand_ok rule]
  simp only [buildGeometry, State.complete, State.setStage, State.writeGrid, sideOf]
  rfl

end Sys2Proof.Machine
end

section

open Sys2Proof Sys2Proof.Machine Sys2Proof.Reference Sys2Proof.Safety

/-- Settles O46: the phase clears the window and then stores the grid that
`geometryGrid_get` describes. -/
theorem mxGeometryBuildsFunctionPatterns : Obligations.MxGeometryBuildsFunctionPatterns := by
  refine ⟨phaseErrors_of_ruleOf rfl rfl fun _ => rfl, fun s hs h1 h40 => ?_⟩
  obtain ⟨inside, outside⟩ := (geometryGrid_square s.version).storesGrid
    ((sideOf_le h40).trans (by decide)) (Memory.clearMatrix s.mem)
  refine ⟨_, exec_mxGeometry hs, fun r hr c hc => ?_, fun r hr c hc hout => ?_, fun a ha => ?_⟩
  · rw [inside r hr c hc, geometryGrid_get h1 h40 hr hc, geometryCell]
    cases geometryColour s.version r c with
    | none => rfl
    | some dark => cases dark <;> rfl
  · rw [outside _ fun i hi j hj => ?_, Memory.get?_clearMatrix_window _ (by omega) (by omega)]
    unfold sideOf at hi hj
    omega
  · exact ((Memory.Agree.clearMatrix _ le_rfl).trans (.storeRows _ _ le_rfl)) a (Nat.zero_le a) ha

end

section
/-! SUPPORT. The number of data cells of a version (46_matrix.md R312): the function cells
are a union of disjoint rectangles. -/

namespace Sys2Proof.Reference

open Sys2Proof.Machine Finset

/-! ## Which cells are function cells -/

/-- The cell (r, c) lies in an alignment pattern (R305). -/
def isAligned (v r c : Nat) : Prop :=
  ∃ a b, alignmentCover v r = some a ∧ alignmentCover v c = some b ∧ alignmentCentre v a b = true

theorem geometryColour_isSome_iff (v r c : Nat) : (geometryColour v r c).isSome ↔
    inFinderZone v r c ∨ isAligned v r c ∨ (lineColour v r c).isSome := by
  by_cases hz : inFinderZone v r c
  · refine iff_of_true ?_ (.inl hz)
    obtain ⟨hr, hc⟩ | ⟨hr, hc⟩ | ⟨hr, hc⟩ := hz
    · rw [geometryColour_topLeft hr hc]; rfl
    · by_cases hc8 : c < 8
      · rw [geometryColour_topLeft hr hc8]; rfl
      · rw [geometryColour_topRight hr (by omega) hc]; rfl
    · by_cases hr8 : r < 8
      · rw [geometryColour_topLeft hr8 hc]; rfl
      · rw [geometryColour_bottomLeft (by omega) hr hc]; rfl
  obtain ⟨a, b, ha, hb, hab⟩ | hno := aligned_or_unaligned v r c
  · exact iff_of_true (by rw [geometryColour_aligned hz ha hb hab]; rfl)
      (.inr (.inl ⟨a, b, ha, hb, hab⟩))
  · have unaligned : ¬ isAligned v r c := fun ⟨a, b, ha, hb, hab⟩ => by simp [hno a b ha hb] at hab
    rw [geometryColour_unaligned hz hno]
    simp [hz, unaligned]

theorem lineColour_isSome_iff (v r c : Nat) : (lineColour v r c).isSome ↔
    r = 6 ∨ c = 6 ∨ (r + 8 = 4 * v + 17 ∧ c = 8) ∨
    (r = 8 ∧ (c ≤ 8 ∨ 4 * v + 17 ≤ c + 8)) ∨ (c = 8 ∧ (r ≤ 8 ∨ 4 * v + 17 ≤ r + 8)) ∨
    7 ≤ v ∧ ((r < 6 ∧ 4 * v + 17 ≤ c + 11) ∨ (4 * v + 17 ≤ r + 11 ∧ c < 6)) := by
  unfold lineColour
  split_ifs <;> simp only [Option.isSome_some, Option.isSome_none, true_iff, false_iff,
    Bool.false_eq_true] <;> omega

/-! ## The function cells as rectangles -/

/-- The corners: finder patterns, separators, format cells and the dark module. -/
def cornerCells (n : Nat) : Finset (Nat × Nat) :=
  range 9 ×ˢ (range 9 ∪ Ico (n - 8) n) ∪ Ico (n - 8) n ×ˢ range 9

/-- The timing patterns between the corners. -/
def timingCells (n : Nat) : Finset (Nat × Nat) := {6} ×ˢ Ico 9 (n - 8) ∪ Ico 9 (n - 8) ×ˢ {6}

/-- The version cells. -/
def versionCells (v : Nat) : Finset (Nat × Nat) :=
  if 7 ≤ v then range 6 ×ˢ Ico (4 * v + 6) (4 * v + 9) ∪ Ico (4 * v + 6) (4 * v + 9) ×ˢ range 6
  else ∅

/-- The coordinates that an alignment coordinate covers, but for the timing patterns' 6. -/
def covered (v : Nat) : Finset Nat :=
  (range (4 * v + 17)).filter fun x => x ≠ 6 ∧ (alignmentCover v x).isSome

/-- The pairs of covered coordinates where a finder stands instead of an alignment pattern
(R305). -/
abbrev nearFinder (v : Nat) (p : Nat × Nat) : Prop :=
  (p.1 ≤ 8 ∧ p.2 ≤ 8) ∨ (p.1 ≤ 8 ∧ 4 * v + 6 ≤ p.2) ∨ (4 * v + 6 ≤ p.1 ∧ p.2 ≤ 8)

/-- The cells of alignment patterns outside the timing patterns. -/
def alignedCells (v : Nat) : Finset (Nat × Nat) :=
  (covered v ×ˢ covered v).filter fun p => ¬ nearFinder v p

/-- The function cells of version v. -/
def functionCells (v : Nat) : Finset (Nat × Nat) :=
  cornerCells (4 * v + 17) ∪ timingCells (4 * v + 17) ∪ versionCells v ∪ alignedCells v

theorem mem_cornerCells {n r c : Nat} : (r, c) ∈ cornerCells n ↔
    (r < 9 ∧ (c < 9 ∨ n ≤ c + 8 ∧ c < n)) ∨ ((n ≤ r + 8 ∧ r < n) ∧ c < 9) := by
  simp only [cornerCells, mem_union, mem_product, mem_range, mem_Ico, tsub_le_iff_right]

theorem mem_timingCells {n r c : Nat} : (r, c) ∈ timingCells n ↔
    (r = 6 ∧ 9 ≤ c ∧ c < n - 8) ∨ ((9 ≤ r ∧ r < n - 8) ∧ c = 6) := by
  simp only [timingCells, mem_union, mem_product, mem_singleton, mem_Ico]

theorem mem_versionCells {v r c : Nat} : (r, c) ∈ versionCells v ↔
    7 ≤ v ∧ ((r < 6 ∧ 4 * v + 6 ≤ c ∧ c < 4 * v + 9) ∨
      ((4 * v + 6 ≤ r ∧ r < 4 * v + 9) ∧ c < 6)) := by
  unfold versionCells
  split_ifs with h7 <;> simp [h7]

theorem mem_covered {v x : Nat} : x ∈ covered v ↔
    x < 4 * v + 17 ∧ x ≠ 6 ∧ ∃ a, alignmentCover v x = some a := by
  simp [covered, Option.isSome_iff_exists]

theorem mem_alignedCells {v r c : Nat} : (r, c) ∈ alignedCells v ↔
    (r ∈ covered v ∧ c ∈ covered v) ∧ ¬ nearFinder v (r, c) := by
  simp only [alignedCells, mem_filter, mem_product]

/-! ## Their number -/

theorem card_cornerCells (v : Nat) : (cornerCells (4 * v + 17)).card = 225 := by
  rw [cornerCells, card_union_of_disjoint, card_product, card_product, card_union_of_disjoint,
    card_range, Nat.card_Ico]
  · omega
  · simp only [disjoint_left, mem_range, mem_Ico]; omega
  · simp only [disjoint_left, mem_product, mem_union, mem_range, mem_Ico]; omega

theorem card_timingCells (v : Nat) : (timingCells (4 * v + 17)).card = 8 * v := by
  rw [timingCells, card_union_of_disjoint, card_product, card_product, card_singleton,
    Nat.card_Ico]
  · omega
  · simp only [disjoint_left, mem_product, mem_singleton, mem_Ico]; omega

theorem card_versionCells (v : Nat) : (versionCells v).card = if 7 ≤ v then 36 else 0 := by
  unfold versionCells
  split_ifs with h7
  · rw [card_union_of_disjoint, card_product, card_product, card_range, Nat.card_Ico]
    · omega
    · simp only [disjoint_left, mem_product, mem_range, mem_Ico]; omega
  · rfl

/-! ## The geometry's colours -/

section
variable {v : Nat} (h1 : 1 ≤ v) (h40 : v ≤ 40)
include h1 h40

/-- Which coordinates the ends of an alignment row cover. -/
theorem alignmentCover_range {x a : Nat} (h : alignmentCover v x = some a) :
    x < 4 * v + 17 ∧ (a = 6 → x ≤ 8) ∧ (a = 4 * v + 10 → 4 * v + 6 ≤ x) := by
  obtain ⟨ha, hxa⟩ := alignmentCover_some h
  have hA := alignRom_range h1 h40 ha
  unfold natDist at hxa
  omega

theorem mem_alignedCells_iff_isAligned {r c : Nat} :
    (r, c) ∈ alignedCells v ↔ isAligned v r c ∧ r ≠ 6 ∧ c ≠ 6 := by
  rw [mem_alignedCells, mem_covered, mem_covered]
  constructor
  · rintro ⟨⟨⟨-, hr, a, ha⟩, -, hc, b, hb⟩, hfar⟩
    refine ⟨⟨a, b, ha, hb, ?_⟩, hr, hc⟩
    have hA := alignmentCover_range h1 h40 ha
    have hB := alignmentCover_range h1 h40 hb
    rw [alignmentCentre_iff (alignmentCover_some ha).1 (alignmentCover_some hb).1]
    omega
  · rintro ⟨⟨a, b, ha, hb, hab⟩, hr, hc⟩
    have hA := alignmentCover_range h1 h40 ha
    have hB := alignmentCover_range h1 h40 hb
    refine ⟨⟨⟨hA.1, hr, a, ha⟩, hB.1, hc, b, hb⟩, fun near => ?_⟩
    rw [unaligned_near_finder h1 h40 near a b ha hb] at hab
    cases hab

/-- The function cells are the cells that the geometry gives a colour. -/
theorem mem_functionCells {r c : Nat} : (r, c) ∈ functionCells v ↔
    (r < 4 * v + 17 ∧ c < 4 * v + 17) ∧ (geometryColour v r c).isSome := by
  have aligned : isAligned v r c → r < 4 * v + 17 ∧ c < 4 * v + 17 := fun ⟨a, b, ha, hb, _⟩ =>
    ⟨(alignmentCover_range h1 h40 ha).1, (alignmentCover_range h1 h40 hb).1⟩
  rw [geometryColour_isSome_iff, lineColour_isSome_iff]
  simp only [functionCells, mem_union, mem_cornerCells, mem_timingCells, mem_versionCells,
    mem_alignedCells_iff_isAligned h1 h40, inFinderZone]
  by_cases h : isAligned v r c
  · simp only [h, aligned h, and_true, true_and, true_or, or_true, iff_true]
    have := aligned h
    omega
  · simp only [h, false_and, false_or, or_false]
    omega

theorem card_covered : (covered v).card = (if 2 ≤ v then 5 * (v / 7) + 9 else 0) ∧
    ((covered v).filter (· ≤ 8)).card = (if 2 ≤ v then 4 else 0) ∧
    ((covered v).filter (4 * v + 6 ≤ ·)).card = if 2 ≤ v then 5 else 0 := by
  have table : ∀ u < 41, 1 ≤ u →
      (covered u).card = (if 2 ≤ u then 5 * (u / 7) + 9 else 0) ∧
      ((covered u).filter (· ≤ 8)).card = (if 2 ≤ u then 4 else 0) ∧
      ((covered u).filter (4 * u + 6 ≤ ·)).card = if 2 ≤ u then 5 else 0 := by decide +kernel
  exact table v (by omega) h1

theorem card_alignedCells : (alignedCells v).card =
    if 2 ≤ v then (25 * (v / 7 + 2) - 10) * (v / 7 + 2) - 55 else 0 := by
  have factor : 25 * (v / 7 + 2) - 10 = 25 * (v / 7) + 40 := by omega
  obtain ⟨all, low, high⟩ := card_covered h1 h40
  have near : (covered v ×ˢ covered v).filter (nearFinder v) =
      (covered v).filter (· ≤ 8) ×ˢ ((covered v).filter (· ≤ 8) ∪
        (covered v).filter (4 * v + 6 ≤ ·)) ∪
      (covered v).filter (4 * v + 6 ≤ ·) ×ˢ (covered v).filter (· ≤ 8) := by
    ext ⟨r, c⟩
    simp only [mem_filter, mem_product, mem_union, nearFinder]
    tauto
  have split := card_filter_add_card_filter_not (s := covered v ×ˢ covered v) (nearFinder v)
  rw [near, card_union_of_disjoint, card_product, card_product, card_product,
    card_union_of_disjoint, all, low, high] at split
  · rw [alignedCells, factor]
    split_ifs at split ⊢
    · ring_nf at split ⊢; omega
    · omega
  · simp only [disjoint_left, mem_filter]; omega
  · simp only [disjoint_left, mem_filter, mem_product, mem_union]; omega

theorem card_functionCells : (functionCells v).card = 225 + 8 * v + (if 7 ≤ v then 36 else 0) +
    (if 2 ≤ v then (25 * (v / 7 + 2) - 10) * (v / 7 + 2) - 55 else 0) := by
  rw [functionCells, card_union_of_disjoint, card_union_of_disjoint, card_union_of_disjoint,
    card_cornerCells, card_timingCells, card_versionCells, card_alignedCells h1 h40]
  all_goals rw [disjoint_left]; rintro ⟨r, c⟩
  · rw [mem_cornerCells, mem_timingCells]; omega
  · rw [mem_union, mem_cornerCells, mem_timingCells, mem_versionCells]; omega
  · rw [mem_union, mem_union, mem_cornerCells, mem_timingCells, mem_versionCells,
      mem_alignedCells, mem_covered, mem_covered]
    unfold nearFinder
    omega

end

/-! ## The data cells -/

/-- The cells of version v that the geometry leaves for data. -/
def dataCells (v : Nat) : Finset (Nat × Nat) :=
  (range (4 * v + 17) ×ˢ range (4 * v + 17)).filter fun p => (geometryColour v p.1 p.2).isNone

theorem mem_dataCells {v r c : Nat} : (r, c) ∈ dataCells v ↔
    (r < 4 * v + 17 ∧ c < 4 * v + 17) ∧ (geometryColour v r c).isNone := by
  simp only [dataCells, mem_filter, mem_product, mem_range]

/-- A count row by row is the number of the cells counted. -/
theorem sum_countP_eq_card (n : Nat) (p : Nat → Nat → Bool) :
    ((List.range n).map fun r => (List.range n).countP (p r)).sum =
      ((range n ×ˢ range n).filter fun x => p x.1 x.2).card := by
  have row (r : Nat) : (List.range n).countP (p r) = ∑ c ∈ range n, if p r c then 1 else 0 := by
    rw [← card_filter, ← Nat.count_eq_card_filter_range, Nat.count]
    simp only [Bool.decide_eq_true]
  simp only [card_filter, sum_product, row]
  rfl

theorem card_dataCells_add {v : Nat} (h1 : 1 ≤ v) (h40 : v ≤ 40) :
    (dataCells v).card + (functionCells v).card = (4 * v + 17) ^ 2 := by
  have function : functionCells v = (range (4 * v + 17) ×ˢ range (4 * v + 17)).filter
      fun p => ¬ (geometryColour v p.1 p.2).isNone := by
    ext ⟨r, c⟩
    simp [mem_functionCells h1 h40, Option.isSome_iff_ne_none]
  rw [function, dataCells, card_filter_add_card_filter_not, card_product, card_range, sq]

/-- R312, as a number of cells. -/
theorem card_dataCells {v : Nat} (h1 : 1 ≤ v) (h40 : v ≤ 40) (e : BitVec 2) :
    (dataCells v).card = 8 * totalCodewords (blockRom v e) + remRom v := by
  have table : ∀ u < 41, 1 ≤ u → ∀ e : BitVec 2,
      8 * totalCodewords (blockRom u e) + remRom u + (225 + 8 * u + (if 7 ≤ u then 36 else 0) +
        (if 2 ≤ u then (25 * (u / 7 + 2) - 10) * (u / 7 + 2) - 55 else 0)) = (4 * u + 17) ^ 2 := by
    decide +kernel
  have cells := card_dataCells_add h1 h40
  have bits := table v (by omega) h1 e
  rw [card_functionCells h1 h40] at cells
  omega

/-- R312, as a formula. -/
theorem card_dataCells_formula {v : Nat} (h1 : 1 ≤ v) (h40 : v ≤ 40) :
    ((dataCells v).card : Int) = (16 * v + 128) * v + 64 -
      (if 2 ≤ v then (25 * (v / 7 + 2 : Nat) - 10) * (v / 7 + 2 : Nat) - 55 else 0) -
      (if 7 ≤ v then 36 else 0) := by
  have cells := card_dataCells_add h1 h40
  rw [card_functionCells h1 h40] at cells
  split_ifs at cells ⊢ <;> zify at cells <;> linear_combination cells

end Sys2Proof.Reference
end

section

open Sys2Proof Sys2Proof.Machine Sys2Proof.Reference Sys2Proof.Safety

/-- Settles O47: the function cells are disjoint rectangles, and the rest of the grid is
counted by subtraction. -/
theorem dataCellCountMatchesStream : Obligations.DataCellCountMatchesStream := by
  intro v h1 h40 e n data
  have hdata : data = (dataCells v).card :=
    sum_countP_eq_card n fun r c => (geometryColour v r c).isNone
  rw [hdata]
  exact ⟨card_dataCells h1 h40 e, card_dataCells_formula h1 h40⟩

end

section
/-! SUPPORT. The placement order (46_matrix.md R321): `placementOrder` lists the cells that
`visitCell` numbers, each once. -/

namespace Sys2Proof.Machine

open Sys2Proof.Reference Sys2Proof.Safety

/-! ## The order as a list of visits -/

theorem range_mul (a b : Nat) : List.range (a * b) =
    (List.range a).flatMap fun i => (List.range b).map (b * i + ·) := by
  induction a with
  | zero => simp
  | succ a ih =>
    rw [Nat.succ_mul, List.range_add, ih, List.range_succ, List.flatMap_append]
    simp [Nat.mul_comm]

theorem zipIdx_map_range {α : Type} (f : Nat → α) (k : Nat) :
    ((List.range k).map f).zipIdx = (List.range k).map fun i => (f i, i) := by
  apply List.ext_getElem
  · simp
  · intro i h1 h2
    simp

/-- The right column of a strip of the n×n grid (R321). -/
def stripRight (n strip : Nat) : Nat :=
  if 2 * strip + 7 < n then n - 1 - 2 * strip else n - 2 - 2 * strip

theorem stripRights_eq {m fuel : Nat} (hm : 3 ≤ m) (hf : m ≤ fuel) :
    stripRights fuel (2 * m) = (List.range m).map (stripRight (2 * m + 1)) := by
  induction m, hm using Nat.le_induction generalizing fuel with
  | base =>
    obtain ⟨f, rfl⟩ : ∃ f, fuel = f + 3 := ⟨fuel - 3, by omega⟩
    cases f <;> rfl
  | succ m hm ih =>
    obtain ⟨f, rfl⟩ : ∃ f, fuel = f + 1 := ⟨fuel - 1, by omega⟩
    have first : stripRight (2 * (m + 1) + 1) 0 = 2 * (m + 1) := by
      unfold stripRight; split_ifs <;> omega
    have later : stripRight (2 * (m + 1) + 1) ∘ Nat.succ = stripRight (2 * m + 1) := by
      funext strip
      simp only [Function.comp_apply, stripRight]
      split_ifs <;> omega
    rw [stripRights, if_neg (by omega), if_neg (by omega : ¬ 2 * (m + 1) = 6),
      List.range_succ_eq_map, List.map_cons, List.map_map, first, later,
      ← ih (show m ≤ f by omega)]
    rfl

theorem stripCells_eq (n right : Nat) (upward : Bool) : stripCells n right upward =
    (List.range (n * 2)).map fun q =>
      (if upward then n - 1 - q / 2 else q / 2, right - q % 2) := by
  have half (t : Nat) : (2 * t + 1) / 2 = t := by omega
  rw [range_mul, List.map_flatMap, stripCells]
  simp [List.range_succ, half, Nat.add_mod]

theorem visitCell_add {n strip q : Nat} (hq : q < 2 * n) : visitCell n (2 * n * strip + q) =
    (if strip % 2 = 0 then n - 1 - q / 2 else q / 2, stripRight n strip - q % 2) := by
  have hstrip : (2 * n * strip + q) / (2 * n) = strip := by
    rw [Nat.mul_add_div (by omega), Nat.div_eq_of_lt hq, Nat.add_zero]
  have hq' : (2 * n * strip + q) % (2 * n) = q := by
    rw [Nat.mul_add_mod, Nat.mod_eq_of_lt hq]
  have hpar : (2 * n * strip + q) % 2 = q % 2 := by
    rw [Nat.mul_assoc, Nat.mul_add_mod]
  simp only [visitCell, hstrip, hq', hpar, stripRight]

theorem visits_sideOf (v : Nat) : visits (sideOf v) = (2 * v + 8) * (2 * sideOf v) := by
  unfold visits sideOf
  rw [show 4 * v + 17 - 1 = 2 * (2 * v + 8) by omega]
  ring

/-- The placer visits the cells in the order of R321. -/
theorem placementOrder_eq (v : Nat) : placementOrder (sideOf v) =
    (List.range (visits (sideOf v))).map (visitCell (sideOf v)) := by
  have hside : sideOf v = 2 * (2 * v + 8) + 1 := by unfold sideOf; omega
  have rights : stripRights (sideOf v) (sideOf v - 1) =
      (List.range (2 * v + 8)).map (stripRight (sideOf v)) := by
    have := stripRights_eq (m := 2 * v + 8) (fuel := sideOf v) (by omega) (by omega)
    rwa [← hside, show 2 * (2 * v + 8) = sideOf v - 1 by omega] at this
  rw [placementOrder, rights, zipIdx_map_range, List.flatMap_map, visits_sideOf, range_mul,
    List.map_flatMap]
  refine List.flatMap_congr fun strip _ => ?_
  rw [stripCells_eq, List.map_map, Nat.mul_comm]
  refine List.map_congr_left fun q hq => ?_
  rw [Function.comp_apply, visitCell_add (List.mem_range.mp hq)]
  simp only [beq_iff_eq]

/-! ## Every cell outside column 6, once -/

/-- A visit by its strip and its place in the strip. -/
theorem exists_visit {v p : Nat} (hp : p < visits (sideOf v)) : ∃ strip < 2 * v + 8,
    ∃ q < 2 * sideOf v, p = 2 * sideOf v * strip + q := by
  have pos : 0 < 2 * sideOf v := by unfold sideOf; omega
  rw [visits_sideOf] at hp
  exact ⟨p / (2 * sideOf v), Nat.div_lt_of_lt_mul (by rwa [Nat.mul_comm]), p % (2 * sideOf v),
    Nat.mod_lt _ pos, (Nat.div_add_mod ..).symm⟩

theorem visitCell_range {v p : Nat} (hp : p < visits (sideOf v)) :
    (visitCell (sideOf v) p).1 < sideOf v ∧ (visitCell (sideOf v) p).2 < sideOf v ∧
      (visitCell (sideOf v) p).2 ≠ 6 := by
  obtain ⟨strip, hs, q, hq, rfl⟩ := exists_visit hp
  rw [visitCell_add hq]
  unfold stripRight sideOf at *
  dsimp only
  split_ifs <;> omega

theorem visitCell_inj {v p p' : Nat} (hp : p < visits (sideOf v)) (hp' : p' < visits (sideOf v))
    (h : visitCell (sideOf v) p = visitCell (sideOf v) p') : p = p' := by
  obtain ⟨strip, hs, q, hq, rfl⟩ := exists_visit hp
  obtain ⟨strip', hs', q', hq', rfl⟩ := exists_visit hp'
  rw [visitCell_add hq, visitCell_add hq', Prod.mk.injEq] at h
  obtain ⟨hrow, hcol⟩ := h
  have same : strip = strip' := by
    unfold stripRight sideOf at hcol
    split_ifs at hcol <;> omega
  subst same
  have parity : q % 2 = q' % 2 := by
    unfold stripRight sideOf at hcol
    split_ifs at hcol <;> omega
  have turn : q / 2 = q' / 2 := by
    split_ifs at hrow <;> omega
  omega

theorem placementOrder_nodup (v : Nat) : (placementOrder (sideOf v)).Nodup := by
  rw [placementOrder_eq]
  exact List.Nodup.map_on (fun p hp p' hp' h =>
    visitCell_inj (List.mem_range.mp hp) (List.mem_range.mp hp') h) List.nodup_range

theorem mem_placementOrder_iff {v : Nat} {x : Nat × Nat} : x ∈ placementOrder (sideOf v) ↔
    x.1 < sideOf v ∧ x.2 < sideOf v ∧ x.2 ≠ 6 := by
  refine ⟨fun h => ?_, fun ⟨hr, hc, h6⟩ => mem_placementOrder hr hc h6⟩
  rw [placementOrder_eq, List.mem_map] at h
  obtain ⟨p, hp, rfl⟩ := h
  exact visitCell_range (List.mem_range.mp hp)

end Sys2Proof.Machine
end

section
/-! SUPPORT. What the placer puts into each cell it visits (46_matrix.md R322). -/

namespace Sys2Proof.Machine

open Sys2Proof.Reference Sys2Proof.Safety

/-! ## The bit stream -/

theorem getD_putBits (val w k : Nat) :
    (putBits val w).getD k false = (decide (k < w) && val.testBit (w - 1 - k)) := by
  induction w generalizing k with
  | zero => simp [putBits]
  | succ w ih =>
    cases k with
    | zero => simp [putBits]
    | succ k => simpa [putBits, show w - (k + 1) = w - 1 - k by omega] using ih k

/-- Bit k of a codeword sequence is bit 7 - k mod 8 of byte k div 8 (R285). -/
theorem getD_byteBits (f : List Byte) (k : Nat) :
    (byteBits f).getD k false = (f.getD (k / 8) 0).getLsbD (7 - k % 8) := by
  induction f generalizing k with
  | nil => simp [byteBits]
  | cons b f ih =>
    have first : byteBits (b :: f) = putBits b.toNat 8 ++ byteBits f := by simp [byteBits]
    by_cases hk : k < 8
    · rw [first, List.getD_append _ _ _ _ (by rwa [putBits_length]), getD_putBits,
        Nat.div_eq_of_lt hk, Nat.mod_eq_of_lt hk]
      simp [hk, BitVec.testBit_toNat]
    · rw [first, List.getD_append_right _ _ _ _ (by rw [putBits_length]; omega), putBits_length, ih,
        show k / 8 = (k - 8) / 8 + 1 by omega, show k % 8 = (k - 8) % 8 by omega]
      rfl

theorem getD_streamOf (f : List Byte) (S k : Nat) : (streamOf f S).getD k false =
    (decide (k < S) && (byteBits f).getD k false) := by
  unfold streamOf
  by_cases hk : k < S
  · simp only [List.getD_eq_getElem?_getD, List.getElem?_take, hk, if_true, decide_true,
      Bool.true_and]
    by_cases hf : k < (byteBits f).length
    · rw [List.getElem?_append_left hf]
    · rw [List.getElem?_append_right (by omega), List.getElem?_replicate,
        List.getElem?_eq_none (by omega : (byteBits f).length ≤ k)]
      split <;> rfl
  · simp [hk]

/-- The stream that MX_PLACE reads, bit by bit. -/
theorem getD_streamOf_bytesAt (s : State) (base len S k : Nat) :
    (streamOf (bytesAt s base len) S).getD k false =
      (decide (k < S ∧ k < 8 * len) && (byteAt s (base + k / 8)).getLsbD (7 - k % 8)) := by
  rw [getD_streamOf, getD_byteBits]
  by_cases hk : k / 8 < len
  · have hlen : k < 8 * len := by omega
    simp [bytesAt, hk, hlen]
  · have hlen : ¬ k < 8 * len := by omega
    simp [bytesAt, hk, hlen]

/-! ## Placement -/

/-- The cell at a position of the grid is one that the placer fills (R322). -/
def Grid.openAt (g : Grid) (p : Nat × Nat) : Bool := (g.get p.1 p.2).isOpen

/-- A data cell that holds a bit of the stream (R322). -/
def dataModule (bit : Bool) : MCell := { state := ModState.ofDark bit, func := false }

theorem placeBits_cons (p : Nat × Nat) (rest : List (Nat × Nat)) (bits : List Bool) (g : Grid)
    (k : Nat) : placeBits (p :: rest) bits g k =
      if g.openAt p then
        placeBits rest bits.tail (g.set p.1 p.2 (dataModule (bits.headD false))) (k + 1)
      else placeBits rest bits g k := rfl

section
variable {n : Nat}

theorem Grid.Square.get_set_ne {g : Grid} (h : g.Square n) {p q : Nat × Nat}
    (hp : p.1 < n ∧ p.2 < n) (hne : p ≠ q) (x : MCell) :
    (g.set q.1 q.2 x).get p.1 p.2 = g.get p.1 p.2 :=
  (h.get_set hp.1 hp.2 _ _ x).trans (if_neg fun heq => hne (Prod.ext heq.1 heq.2))

theorem Grid.Square.countP_openAt_set {g : Grid} (h : g.Square n) {q : Nat × Nat}
    {cells : List (Nat × Nat)} (hin : ∀ p ∈ cells, p.1 < n ∧ p.2 < n) (hq : q ∉ cells)
    (x : MCell) :
    cells.countP (g.set q.1 q.2 x).openAt = cells.countP g.openAt :=
  List.countP_congr fun p hp => by
    have hne : p ≠ q := fun heq => hq (heq ▸ hp)
    rw [Grid.openAt, h.get_set_ne (hin p hp) hne, Grid.openAt]

/-- A cell that is not visited stays. -/
theorem placeBits_get_of_notMem (cells : List (Nat × Nat)) (bits : List Bool) {g : Grid} (k : Nat)
    (h : g.Square n) {p : Nat × Nat} (hp : p.1 < n ∧ p.2 < n) (hno : p ∉ cells) :
    (placeBits cells bits g k).1.get p.1 p.2 = g.get p.1 p.2 := by
  induction cells generalizing bits g k with
  | nil => rfl
  | cons q rest ih =>
    obtain ⟨hne, hrest⟩ := not_or.mp (List.mem_cons.not.mp hno)
    rw [placeBits_cons]
    split
    · rw [ih _ _ (h.set _ _ _) hrest, h.get_set_ne hp hne]
    · exact ih _ _ h hrest

/-- The number of filled cells is that of the open ones among those visited. -/
theorem placeBits_count (cells : List (Nat × Nat)) (bits : List Bool) {g : Grid} (k : Nat)
    (h : g.Square n) (hin : ∀ p ∈ cells, p.1 < n ∧ p.2 < n) (nodup : cells.Nodup) :
    (placeBits cells bits g k).2 = k + cells.countP g.openAt := by
  induction cells generalizing bits g k with
  | nil => rfl
  | cons q rest ih =>
    obtain ⟨hq, hrest⟩ := List.nodup_cons.mp nodup
    have hin' : ∀ p ∈ rest, p.1 < n ∧ p.2 < n := fun p hp => hin p (List.mem_cons_of_mem _ hp)
    rw [placeBits_cons, List.countP_cons]
    split
    · rw [ih _ _ (h.set _ _ _) hin' hrest, h.countP_openAt_set hin' hq]
      omega
    · exact ih _ _ h hin' hrest

/-- The i-th cell visited takes, if it is open, the bit whose number is that of the open cells
before it, and else stays. -/
theorem placeBits_get_visited (cells : List (Nat × Nat)) (bits : List Bool) {g : Grid} (k : Nat)
    (h : g.Square n) (hin : ∀ p ∈ cells, p.1 < n ∧ p.2 < n) (nodup : cells.Nodup) {i : Nat}
    {p : Nat × Nat} (hi : cells[i]? = some p) : (placeBits cells bits g k).1.get p.1 p.2 =
      if g.openAt p then dataModule (bits.getD ((cells.take i).countP g.openAt) false)
      else g.get p.1 p.2 := by
  induction cells generalizing bits g k i with
  | nil => simp at hi
  | cons q rest ih =>
    obtain ⟨hq, hrest⟩ := List.nodup_cons.mp nodup
    have hin' : ∀ p ∈ rest, p.1 < n ∧ p.2 < n := fun p hp => hin p (List.mem_cons_of_mem _ hp)
    rw [placeBits_cons]
    cases i with
    | zero =>
      obtain rfl : q = p := by simpa using hi
      obtain ⟨hr, hc⟩ := hin q List.mem_cons_self
      split
      · rw [placeBits_get_of_notMem _ _ _ (h.set _ _ _) ⟨hr, hc⟩ hq, h.get_set hr hc]
        cases bits <;> simp
      · exact placeBits_get_of_notMem _ _ _ h ⟨hr, hc⟩ hq
    | succ i =>
      have hi : rest[i]? = some p := by simpa using hi
      have hp := List.mem_of_getElem? hi
      have hne : p ≠ q := fun heq => hq (heq ▸ hp)
      rw [List.take_succ_cons, List.countP_cons]
      split
      · next hopen =>
        have kept : ∀ x, (g.set q.1 q.2 x).openAt p = g.openAt p := fun x => by
          rw [Grid.openAt, h.get_set_ne (hin' p hp) hne, Grid.openAt]
        have before := h.countP_openAt_set
          (fun p hp => hin' p (List.mem_of_mem_take hp)) (fun hm => hq (List.mem_of_mem_take hm))
          (cells := rest.take i)
        rw [ih _ _ (h.set _ _ _) hin' hrest hi, kept, before, h.get_set_ne (hin' p hp) hne]
        cases bits <;> simp [List.getD_eq_getElem?_getD]
      · exact ih _ _ h hin' hrest hi

end

/-! ## MX_PLACE -/

/-- The grid that MX_PLACE stores, and the number of cells it fills. -/
def placement (s : State) : Grid × Nat :=
  placeBits (placementOrder (sideOf s.version))
    (streamOf (bytesAt s 0x05000 s.finalLen.toNat) s.streamBits.toNat)
    (s.readGrid (sideOf s.version)) 0

/-- R320: MX_PLACE in its own stage. -/
theorem exec_mxPlace {s : State} (hs : s.status.stage = .geometry) :
    exec .mxPlace s = .next { s with
      mem := Memory.storeRows s.mem 0 (placement s).1, draws := s.draws + 1
      status := stagedStatus .placed s
      placedBits := BitVec.ofNat 16 (min (placement s).2 s.streamBits.toNat) } := by
  have rule : ruleOf .mxPlace s = .ok (placeData s).drawn := if_pos hs
  have read (n : Nat) : s.readBuf .final n = bytesAt s 0x05000 n := Memory.readBlock_eq ..
  rw [exec_eq_runCommand, runCommand_ok rule, placement, ← read]
  simp only [placeData, State.drawn, State.complete, State.setStage, State.writeGrid]
  rfl

theorem placement_square (s : State) : (placement s).1.Square (sideOf s.version) :=
  (placeBits_get _ _ _ (s.readGrid_square _)).1

theorem placement_column6 {s : State} {r : Nat} (hr : r < sideOf s.version) :
    (placement s).1.get r 6 = cellAt s r 6 := by
  have h6 : 6 < sideOf s.version := by unfold sideOf; omega
  rw [cellAt_eq_readGrid s hr h6]
  exact placeBits_get_of_notMem _ _ _ (s.readGrid_square _) (p := (r, 6)) ⟨hr, h6⟩
    fun hm => (mem_placementOrder_iff.mp hm).2.2 rfl

theorem isOpen_eq_decide (x : MCell) : x.isOpen = decide (x.func = false ∧ x.state = .unset) := by
  obtain ⟨state, func⟩ := x
  cases state <;> cases func <;> rfl

/-- The p-th cell visited is open (R322). -/
def visitOpen (s : State) (p : Nat) : Bool :=
  (cellAt s (visitCell (sideOf s.version) p).1 (visitCell (sideOf s.version) p).2).isOpen

theorem openAt_visitCell {s : State} {p : Nat} (hp : p < visits (sideOf s.version)) :
    (s.readGrid (sideOf s.version)).openAt (visitCell (sideOf s.version) p) = visitOpen s p := by
  obtain ⟨hr, hc, -⟩ := visitCell_range hp
  rw [Grid.openAt, visitOpen, cellAt_eq_readGrid s hr hc]

theorem countP_openAt {s : State} {p : Nat} (hp : p ≤ visits (sideOf s.version)) :
    ((placementOrder (sideOf s.version)).take p).countP (s.readGrid (sideOf s.version)).openAt =
      (List.range p).countP (visitOpen s) := by
  rw [placementOrder_eq, ← List.map_take, List.take_range, min_eq_left hp, List.countP_map]
  refine List.countP_congr fun i hi => ?_
  rw [Function.comp_apply, openAt_visitCell ((List.mem_range.mp hi).trans_le hp)]

/-- The number of cells that MX_PLACE fills. -/
theorem placement_count (s : State) : (placement s).2 =
    (List.range (visits (sideOf s.version))).countP (visitOpen s) := by
  have all := countP_openAt (s := s) le_rfl
  rw [List.take_of_length_le (by simp [placementOrder_eq])] at all
  rw [placement, placeBits_count _ _ _ (s.readGrid_square _)
    (fun p hp => (mem_placementOrder_iff.mp hp).imp_right And.left) (placementOrder_nodup _), all,
    Nat.zero_add]

/-- What MX_PLACE leaves in the p-th cell visited (R322). -/
theorem placement_visit {s : State} {p : Nat} (hp : p < visits (sideOf s.version)) :
    (placement s).1.get (visitCell (sideOf s.version) p).1 (visitCell (sideOf s.version) p).2 =
      if visitOpen s p then dataModule ((streamOf (bytesAt s 0x05000 s.finalLen.toNat)
        s.streamBits.toNat).getD ((List.range p).countP (visitOpen s)) false)
      else cellAt s (visitCell (sideOf s.version) p).1 (visitCell (sideOf s.version) p).2 := by
  obtain ⟨hr, hc, -⟩ := visitCell_range hp
  rw [← openAt_visitCell hp, ← countP_openAt hp.le, cellAt_eq_readGrid s hr hc]
  exact placeBits_get_visited _ _ _ (s.readGrid_square _)
    (fun p hp => (mem_placementOrder_iff.mp hp).imp_right And.left) (placementOrder_nodup _)
    (by simp [placementOrder_eq, hp])

end Sys2Proof.Machine
end

section

open Sys2Proof Sys2Proof.Machine Sys2Proof.Reference Sys2Proof.Safety

/-- Settles O48: the placer visits the cells of `visitCell` in order, each once, and bit k of
the stream is bit 7 - k mod 8 of codeword k div 8. -/
theorem mxPlaceFollowsZigzag : Obligations.MxPlaceFollowsZigzag := by
  refine ⟨phaseErrors_of_ruleOf rfl rfl fun _ => rfl, fun s hs h1 h40 => ?_⟩
  intro n isOpen before bit
  have hopen : isOpen = visitOpen s := funext fun p => (isOpen_eq_decide _).symm
  refine ⟨_, (placement s).1.get, ?_, (placement_square s).storesGrid
    ((sideOf_le h40).trans (by decide)) s.mem, fun p hp h => ?_, fun p hp h => ?_,
    fun r hr => placement_column6 hr⟩
  · rw [exec_mxPlace hs, placement_count, ← hopen]
    rfl
  · refine (placement_visit hp).trans ?_
    rw [← hopen, if_pos h, dataModule, getD_streamOf_bytesAt]
    rfl
  · exact (placement_visit hp).trans (if_neg (Bool.eq_false_iff.mp (hopen ▸ h)))

end

section
/-! SUPPORT. Placement into the geometry's matrix (46_matrix.md R323). -/

namespace Sys2Proof.Machine

open Sys2Proof.Reference Sys2Proof.Safety

theorem geometryCell_isOpen (v r c : Nat) :
    (geometryCell v r c).isOpen = (geometryColour v r c).isNone := by
  unfold geometryCell
  cases geometryColour v r c with
  | none => rfl
  | some dark => cases dark <;> rfl

/-- Every data cell is visited once. -/
theorem countP_placementOrder {v : Nat} (h1 : 1 ≤ v) (h40 : v ≤ 40) :
    (placementOrder (sideOf v)).countP (fun p => (geometryColour v p.1 p.2).isNone) =
      (dataCells v).card := by
  rw [List.countP_eq_length_filter,
    ← List.toFinset_card_of_nodup ((placementOrder_nodup v).filter _)]
  congr 1
  ext ⟨r, c⟩
  have column6 : (geometryColour v r c).isNone → c ≠ 6 := by
    rintro hnone rfl
    have := geometryColour_column6 (r := r) h1 h40
    simp_all
  rw [List.mem_toFinset, List.mem_filter, mem_placementOrder_iff, mem_dataCells, sideOf]
  tauto

/-- The matrix holds what MX_GEOMETRY leaves (R300). -/
def HoldsGeometry (s : State) : Prop :=
  ∀ r < sideOf s.version, ∀ c < sideOf s.version, cellAt s r c = geometryCell s.version r c

theorem HoldsGeometry.placement_count {s : State} (h : HoldsGeometry s) (h1 : 1 ≤ s.version)
    (h40 : s.version ≤ 40) : (placement s).2 = (dataCells s.version).card := by
  rw [Machine.placement_count, ← countP_placementOrder h1 h40, placementOrder_eq, List.countP_map]
  refine List.countP_congr fun p hp => ?_
  obtain ⟨hr, hc, -⟩ := visitCell_range (List.mem_range.mp hp)
  rw [visitOpen, h _ hr _ hc, geometryCell_isOpen, Function.comp_apply]

theorem exists_visitCell_eq {v r c : Nat} (hr : r < sideOf v) (hc : c < sideOf v) (h6 : c ≠ 6) :
    ∃ p < visits (sideOf v), visitCell (sideOf v) p = (r, c) := by
  have visited := mem_placementOrder hr hc h6
  rw [placementOrder_eq, List.mem_map] at visited
  obtain ⟨p, hp, hcell⟩ := visited
  exact ⟨p, List.mem_range.mp hp, hcell⟩

/-- A function cell of the geometry's matrix stays, and every other cell becomes a data
module. -/
theorem HoldsGeometry.placement_get {s : State} (h : HoldsGeometry s) (h1 : 1 ≤ s.version)
    (h40 : s.version ≤ 40) {r c : Nat} (hr : r < sideOf s.version) (hc : c < sideOf s.version) :
    ((cellAt s r c).func = true ∧ (placement s).1.get r c = cellAt s r c) ∨
      ((cellAt s r c).func = false ∧ ∃ bit, (placement s).1.get r c = dataModule bit) := by
  have func : (cellAt s r c).func = (geometryColour s.version r c).isSome := by
    rw [h r hr c hc, geometryCell_func]
  by_cases h6 : c = 6
  · subst h6
    exact .inl ⟨func.trans (geometryColour_column6 h1 h40), placement_column6 hr⟩
  obtain ⟨p, hp, hcell⟩ := exists_visitCell_eq hr hc h6
  have placed := placement_visit hp
  rw [visitOpen, hcell, h r hr c hc, geometryCell_isOpen] at placed
  cases hcolour : geometryColour s.version r c with
  | none => exact .inr ⟨by rw [func, hcolour]; rfl, _, placed.trans (if_pos (by rw [hcolour]; rfl))⟩
  | some dark =>
    refine .inl ⟨by rw [func, hcolour]; rfl, ?_⟩
    rw [h r hr c hc]
    exact placed.trans (if_neg (by simp [hcolour]))

theorem dataModule_resolved (bit : Bool) : (dataModule bit).state ≠ .unset := by
  cases bit <;> decide

end Sys2Proof.Machine
end

section

open Sys2Proof Sys2Proof.Machine Sys2Proof.Reference Sys2Proof.Safety

/-- Settles O49: the data cells are the open ones, each is visited once, and by
`card_dataCells` there are as many as stream bits. -/
theorem placementResolvesEveryCell : Obligations.PlacementResolvesEveryCell := by
  intro s t hs h1 h40 hcells hbits ht
  have geometry : HoldsGeometry s := hcells
  rw [exec_mxPlace hs, Host.Outcome.next.injEq] at ht
  subst ht
  refine ⟨?_, fun r hr c hc => ?_⟩
  · have count : (placement s).2 = s.streamBits.toNat := by
      rw [geometry.placement_count h1 h40, card_dataCells h1 h40 s.config.ecl, hbits]
    simp only [count, min_self, BitVec.ofNat_toNat, BitVec.setWidth_eq]
  · rw [cellAt_storeRows (placement_square s) ((sideOf_le h40).trans (by decide)) rfl hr hc]
    obtain ⟨hfunc, same⟩ | ⟨hfunc, bit, placed⟩ := geometry.placement_get h1 h40 hr hc
    · rw [same]
      refine ⟨?_, fun _ => rfl, rfl⟩
      rw [geometry r hr c hc] at hfunc ⊢
      exact geometryCell_proper hfunc
    · rw [placed, hfunc]
      exact ⟨dataModule_resolved bit, nofun, rfl⟩

end

section
/-! SUPPORT. The BCH generator (47_mask_checksum.md R360, R362) and the commands that answer its
values. -/

namespace Sys2Proof.Machine

open Sys2Proof.Reference Sys2Proof.Safety

/-- R360: the 32 format values are the printed ones. -/
theorem formatInfo_eq_formatValue (e : BitVec 2) (m : BitVec 3) :
    formatInfo e m.toNat = formatValue e m := by
  have table : ∀ (e : BitVec 2) (m : BitVec 3), formatInfo e m.toNat = formatValue e m := by decide
  exact table e m

/-- R362: the value of each of the 64 version numbers is a codeword. -/
theorem isVersionInfo_versionInfo {v : Nat} (hv : v < 64) : isVersionInfo v (versionInfo v) := by
  have table : ∀ v < 64, versionInfo v < 2 ^ 18 ∧ versionInfo v / 2 ^ 12 = v ∧
      ∃ q < 64, versionInfo v = clMul 6 0b1111100100101 q := by decide +kernel
  exact table v hv

/-- A command whose rule writes RESULT and nothing else (R361, R363). -/
theorem exec_of_ruleOf_setResult {i : Instr} {s : State} {r : Word}
    (h : ruleOf i s = .ok (s.setResult r)) :
    exec i s = .next { s with result := r, status := doneStatus s } := by
  rw [exec_eq_runCommand, runCommand_ok h]
  rfl

end Sys2Proof.Machine
end

section

open Sys2Proof Sys2Proof.Machine Sys2Proof.Reference Sys2Proof.Safety

/-- Settles O40: the computed format value is the printed one. -/
theorem bchFormatWritesTableValue : Obligations.BchFormatWritesTableValue := by
  intro s
  rw [← formatInfo_eq_formatValue]
  exact exec_of_ruleOf_setResult rfl

/-- Settles O41: the computed version value is the codeword of OPA[5:0]. -/
theorem bchVersionWritesCodeword : Obligations.BchVersionWritesCodeword :=
  fun s => ⟨_, isVersionInfo_versionInfo s.opA6.isLt, exec_of_ruleOf_setResult rfl⟩

end

section
/-! SUPPORT. A mask applied to any grid, cell by cell (47_mask_checksum.md R340, R353). -/

namespace Sys2Proof.Machine

/-- The cell of a slot of the masked grid. -/
theorem applyMask_getElem? (k : Nat) (g : Grid) (r c : Nat) :
    ((applyMask k g)[r]?.getD [])[c]? = ((g[r]?.getD [])[c]?).map (maskCell k r c) := by
  cases h : g[r]? <;> simp [applyMask, List.getElem?_zipIdx, Function.comp_def, h]

theorem maskCell_of_func {x : MCell} (h : x.func = true) (k r c : Nat) : maskCell k r c x = x :=
  if_pos h

/-- A mask flips a data cell twice, or not at all. -/
theorem maskCell_maskCell (k r c : Nat) {x : MCell} (h : x.func = false → x.state ≠ .unset) :
    maskCell k r c (maskCell k r c x) = x := by
  obtain ⟨state, func⟩ := x
  cases func with
  | true => rfl
  | false =>
    cases state with
    | unset => exact absurd rfl (h rfl)
    | light | dark =>
      cases hm : maskHolds k r c <;>
        simp [maskCell, maskedDark, MCell.isDark, ModState.ofDark, hm]

theorem applyMask_applyMask (k : Nat) {g : Grid}
    (h : ∀ row ∈ g, ∀ x ∈ row, x.func = false → x.state ≠ .unset) :
    applyMask k (applyMask k g) = g := by
  refine List.ext_getElem (by simp [applyMask]) fun r _ hr => ?_
  refine List.ext_getElem (by simp [applyMask]) fun c _ hc => ?_
  simpa [applyMask] using
    maskCell_maskCell k r c (h _ (List.getElem_mem hr) _ (List.getElem_mem hc))

theorem applyMask_get_of_func {k : Nat} {g : Grid} {r c : Nat} (h : (g.get r c).func = true) :
    (applyMask k g).get r c = g.get r c := by
  rw [Grid.get_eq] at h ⊢
  rw [Grid.get_eq, applyMask_getElem?]
  cases hx : (g[r]?.getD [])[c]? with
  | none => rfl
  | some x => exact maskCell_of_func (by simpa [hx] using h) k r c

end Sys2Proof.Machine
end

section

open Sys2Proof Sys2Proof.Machine Sys2Proof.Reference Sys2Proof.Safety

/-- Settles O52: masking works cell by cell, and a cell flipped twice is as before. -/
theorem maskingIsAnInvolution : Obligations.MaskingIsAnInvolution :=
  fun k _ => ⟨applyMask_applyMask k, fun _ _ => applyMask_get_of_func⟩

end

section
/-! SUPPORT. The penalty scorecard (47_mask_checksum.md R345-R350) of a candidate given as a
function of row and column: the machine's scans of its lines count what Reference counts position
by position. -/

namespace Sys2Proof.Machine

open Sys2Proof.Reference

/-! ## A grid as a function of row and column -/

/-- The n cells of a line, as the list that the machine scans. -/
def lineOf (n : Nat) (l : Nat → Bool) : List Bool := (List.range n).map l

/-- The n×n candidate with these colours. -/
def gridOf (n : Nat) (g : Nat → Nat → Bool) : List (List Bool) :=
  (List.range n).map fun r => lineOf n (g r)

@[simp] theorem lineOf_length (n : Nat) (l : Nat → Bool) : (lineOf n l).length = n := by
  simp [lineOf]

theorem map_range_succ {α : Type} (n : Nat) (f : Nat → α) :
    (List.range (n + 1)).map f = f 0 :: (List.range n).map fun i => f (i + 1) := by
  simp [List.range_succ_eq_map, Function.comp_def]

theorem lineOf_succ (n : Nat) (l : Nat → Bool) :
    lineOf (n + 1) l = l 0 :: lineOf n fun i => l (i + 1) := map_range_succ n l

theorem eq_lineOf {n : Nat} {l : List Bool} (h : l.length = n) :
    l = lineOf n fun c => l.getD c false := by
  refine List.ext_getElem (by simp [h]) fun c hc _ => ?_
  simp [lineOf, hc]

theorem eq_gridOf {n : Nat} {g : List (List Bool)} (hrows : g.length = n)
    (hcols : ∀ row ∈ g, row.length = n) : g = gridOf n fun r c => (g.getD r []).getD c false := by
  refine List.ext_getElem (by simp [gridOf, hrows]) fun r hr _ => ?_
  simpa [gridOf, hr] using eq_lineOf (hcols _ (List.getElem_mem hr))

/-- The lines of a grid are its rows and its columns (section 2). -/
theorem gridLines_gridOf (n : Nat) (g : Nat → Nat → Bool) : gridLines n (gridOf n g) =
    (List.range n).map (fun r => lineOf n (g r)) ++
      (List.range n).map fun c => lineOf n fun r => g r c := by
  refine congrArg (gridOf n g ++ ·) (List.map_congr_left fun c hc => ?_)
  have hc : c < n := List.mem_range.mp hc
  simp [gridOf, lineOf, hc]

/-- A penalty that counts position by position on a line does so on a grid. -/
theorem sum_gridLines {n : Nat} {f : List Bool → Nat} {score : (Nat → Bool) → Nat}
    (h : ∀ l, f (lineOf n l) = score l) (g : Nat → Nat → Bool) :
    ((gridLines n (gridOf n g)).map f).sum = overLines n score g := by
  simp [gridLines_gridOf, overLines, Function.comp_def, h]

/-! ## Rule 1 -/

/-- What the position i of a line adds to rule 1 (R345). -/
def runWindow (n : Nat) (l : Nat → Bool) (i : Nat) : Nat :=
  if i + 5 ≤ n ∧ l (i + 1) = l i ∧ l (i + 2) = l i ∧ l (i + 3) = l i ∧ l (i + 4) = l i then
    if i = 0 ∨ l (i - 1) ≠ l i then 3 else 1
  else 0

theorem runScoreOf_eq_sum (n : Nat) (l : Nat → Bool) :
    runScoreOf n l = ∑ i ∈ Finset.range n, runWindow n l i := rfl

/-- The cells from a to b - 1 are a maximal run of their line. -/
structure MaximalRun (n : Nat) (l : Nat → Bool) (a b : Nat) : Prop where
  nonempty : a < b
  inside : b ≤ n
  equal : ∀ i, a ≤ i → i < b → l i = l a
  before : a = 0 ∨ l (a - 1) ≠ l a
  after : b = n ∨ l b ≠ l a

/-- The positions of a maximal run whose window lies in the run add 3 or 1, the others
nothing. -/
theorem MaximalRun.runWindow_eq {n : Nat} {l : Nat → Bool} {a b i : Nat}
    (h : MaximalRun n l a b) (hai : a ≤ i) (hib : i < b) :
    runWindow n l i = if i + 5 ≤ b then if i = a then 3 else 1 else 0 := by
  have hi : l i = l a := h.equal i hai hib
  have inside := h.inside
  have same : (i + 5 ≤ n ∧ l (i + 1) = l i ∧ l (i + 2) = l i ∧ l (i + 3) = l i ∧
      l (i + 4) = l i) ↔ i + 5 ≤ b := by
    rw [hi]
    constructor
    · rintro ⟨hn, h1, h2, h3, h4⟩
      by_contra hb
      obtain hend | hnext := h.after
      · omega
      · obtain rfl | rfl | rfl | rfl : b = i + 1 ∨ b = i + 2 ∨ b = i + 3 ∨ b = i + 4 := by omega
        all_goals exact hnext ‹_›
    · intro hb
      exact ⟨by omega, h.equal _ (by omega) (by omega), h.equal _ (by omega) (by omega),
        h.equal _ (by omega) (by omega), h.equal _ (by omega) (by omega)⟩
  have first : (i = 0 ∨ l (i - 1) ≠ l i) ↔ i = a := by
    rw [hi]
    constructor
    · intro hstart
      by_contra hne
      exact hstart.elim (by omega) fun hd => hd (h.equal _ (by omega) (by omega))
    · rintro rfl
      exact h.before
  simp only [runWindow, same, first]

/-- A run of five or more cells adds 3 where it starts, and 1 for each further window. -/
theorem sum_runWindows (len : Nat) :
    ∑ i ∈ Finset.range len, (if i + 5 ≤ len then if i = 0 then 3 else 1 else 0) =
      runScore len := by
  obtain hshort | ⟨m, rfl⟩ : len < 5 ∨ ∃ m, len = m + 5 :=
    (Nat.lt_or_ge len 5).imp_right fun h => ⟨len - 5, by omega⟩
  · rw [runScore, if_neg (by omega)]
    exact Finset.sum_eq_zero fun i _ => if_neg (by omega)
  · have starts : (Finset.range (m + 5)).filter (fun i => i + 5 ≤ m + 5) = Finset.range (m + 1) := by
      ext i
      simp only [Finset.mem_filter, Finset.mem_range]
      omega
    rw [← Finset.sum_filter, starts, Finset.sum_range_succ']
    simp [runScore]

theorem MaximalRun.sum_runWindow {n : Nat} {l : Nat → Bool} {a b : Nat}
    (h : MaximalRun n l a b) : ∑ i ∈ Finset.Ico a b, runWindow n l i = runScore (b - a) := by
  rw [Finset.sum_Ico_eq_sum_range, ← sum_runWindows]
  refine Finset.sum_congr rfl fun i hi => ?_
  have hi : i < b - a := Finset.mem_range.mp hi
  rw [h.runWindow_eq (by omega) (by omega)]
  simp only [show a + i + 5 ≤ b ↔ i + 5 ≤ b - a by omega, show a + i = a ↔ i = 0 by omega]

/-- Rule 1 on the rest of a line from i on, within a run that began at a. -/
theorem runPenaltyFrom_range' {n : Nat} {l : Nat → Bool} (k : Nat) {a i : Nat} (hn : i + k = n)
    (hai : a < i) (equal : ∀ j, a ≤ j → j < i → l j = l a) (before : a = 0 ∨ l (a - 1) ≠ l a) :
    runPenaltyFrom (l a) (i - a) ((List.range' i k).map l) =
      ∑ j ∈ Finset.Ico a n, runWindow n l j := by
  induction k generalizing a i with
  | zero =>
    obtain rfl : i = n := hn
    exact (MaximalRun.sum_runWindow ⟨hai, le_rfl, equal, before, .inl rfl⟩).symm
  | succ k ih =>
    rw [List.range'_succ, List.map_cons, runPenaltyFrom]
    split
    · next hi =>
      rw [show i - a + 1 = i + 1 - a by omega]
      refine ih (by omega) (by omega) (fun j ha hj => ?_) before
      obtain hj | rfl : j < i ∨ j = i := by omega
      · exact equal j ha hj
      · exact hi
    · next hi =>
      have run : MaximalRun n l a i := ⟨hai, by omega, equal, before, .inr hi⟩
      have rest := ih (a := i) (i := i + 1) (by omega) (by omega)
        (fun j hij hj => congrArg l (by omega))
        (.inr fun heq => hi (heq.symm.trans (equal (i - 1) (by omega) (by omega))))
      rw [Nat.add_sub_cancel_left] at rest
      rw [← Finset.sum_Ico_consecutive _ hai.le (by omega : i ≤ n), run.sum_runWindow, rest]

/-- R345: the runs of a line, scored one by one, add what its windows add. -/
theorem runPenalty_lineOf (n : Nat) (l : Nat → Bool) :
    runPenalty (lineOf n l) = runScoreOf n l := by
  cases n with
  | zero => rfl
  | succ n =>
    rw [runScoreOf_eq_sum, Finset.range_eq_Ico, lineOf, List.range_eq_range', List.range'_succ]
    exact runPenaltyFrom_range' n (a := 0) (i := 1) (by omega) Nat.zero_lt_one
      (fun j _ hj => congrArg l (by omega)) (.inl rfl)

/-! ## Rule 2 -/

/-- R346: the uniform blocks between two rows, column by column. -/
theorem uniformBlocks_lineOf (n : Nat) (f g : Nat → Bool) :
    uniformBlocks (lineOf n f) (lineOf n g) = ((List.range (n - 1)).map fun c =>
      if f (c + 1) = f c ∧ g c = f c ∧ g (c + 1) = f c then 1 else 0).sum := by
  induction n generalizing f g with
  | zero => rfl
  | succ n ih =>
    cases n with
    | zero => rfl
    | succ n =>
      have step := ih (fun i => f (i + 1)) fun i => g (i + 1)
      rw [lineOf_succ, lineOf_succ] at step
      rw [lineOf_succ, lineOf_succ, lineOf_succ, lineOf_succ, uniformBlocks, step]
      simp [List.sum_range_succ', add_comm, eq_comm]

theorem blockCount_map_range (n : Nat) (row : Nat → List Bool) :
    blockCount ((List.range n).map row) =
      ((List.range (n - 1)).map fun r => uniformBlocks (row r) (row (r + 1))).sum := by
  induction n generalizing row with
  | zero => rfl
  | succ n ih =>
    cases n with
    | zero => rfl
    | succ n =>
      have step := ih fun i => row (i + 1)
      rw [map_range_succ] at step
      rw [map_range_succ, map_range_succ, blockCount, step]
      exact (List.sum_range_succ' (fun r => uniformBlocks (row r) (row (r + 1))) n).symm

/-- R346: the blocks of a candidate, counted position by position. -/
theorem blockCount_gridOf (n : Nat) (g : Nat → Nat → Bool) :
    3 * blockCount (gridOf n g) = blockScoreOf n g := by
  simp [gridOf, blockCount_map_range, uniformBlocks_lineOf, blockScoreOf, ← List.sum_map_mul_left]

/-! ## Rule 3 -/

theorem isPrefixOf_lineOf (pattern : List Bool) (n : Nat) (l : Nat → Bool) :
    pattern.isPrefixOf (lineOf n l) =
      decide (pattern.length ≤ n ∧ lineOf pattern.length l = pattern) := by
  induction pattern generalizing n l with
  | nil => simp [lineOf]
  | cons p ps ih =>
    cases n with
    | zero => simp [lineOf]
    | succ n =>
      rw [lineOf_succ, List.isPrefixOf_cons_cons, ih]
      simp [lineOf_succ, eq_comm, Bool.and_left_comm, beq_eq_decide]

/-- R347: the windows that show a pattern, position by position. -/
theorem countWindows_lineOf (pattern : List Bool) (n : Nat) (l : Nat → Bool) :
    countWindows pattern (lineOf n l) = ((List.range n).map fun i =>
      if i + pattern.length ≤ n ∧ lineOf pattern.length (fun j => l (i + j)) = pattern
      then 1 else 0).sum := by
  induction n generalizing l with
  | zero => rfl
  | succ n ih =>
    have cells (i j : Nat) : i + 1 + j = i + j + 1 := by omega
    rw [lineOf_succ, countWindows, ← lineOf_succ, isPrefixOf_lineOf, ih, map_range_succ,
      List.sum_cons]
    simp [cells]

theorem finderPenalty_lineOf (n : Nat) (l : Nat → Bool) :
    finderPenalty (lineOf n l) = finderScoreOf n l := by
  rw [finderPenalty, countWindows_lineOf, countWindows_lineOf, ← List.sum_map_mul_left,
    ← List.sum_map_mul_left, ← List.sum_map_add]
  refine congrArg List.sum (List.map_congr_left fun i _ => ?_)
  by_cases hi : i + 11 ≤ n <;> simp [finderLikeA, finderLikeB, lineOf, hi]

/-! ## Rule 4 -/

theorem count_true_lineOf (n : Nat) (l : Nat → Bool) :
    (lineOf n l).count true = ((List.range n).map fun c => if l c then 1 else 0).sum := by
  induction n generalizing l with
  | zero => rfl
  | succ n ih => simp [lineOf_succ, List.count_cons, ih, List.sum_range_succ', add_comm]

theorem darkCount_gridOf (n : Nat) (g : Nat → Nat → Bool) :
    darkCount (gridOf n g) = darkCells n g := by
  simp [darkCount, gridOf, darkCells, Function.comp_def, count_true_lineOf]

/-! ## The scorecard -/

/-- R345-R348: the penalties of a candidate, counted position by position. -/
theorem scoreOf_gridOf (n : Nat) (g : Nat → Nat → Bool) : scoreOf n (gridOf n g) =
    ⟨ruleScore n g 0, ruleScore n g 1, ruleScore n g 2, ruleScore n g 3⟩ := by
  rw [scoreOf, sum_gridLines (runPenalty_lineOf n), sum_gridLines (finderPenalty_lineOf n),
    blockCount_gridOf, darkCount_gridOf, ← pow_two]
  rfl

theorem total_ruleScores (n : Nat) (g : Nat → Nat → Bool) :
    Score.total ⟨ruleScore n g 0, ruleScore n g 1, ruleScore n g 2, ruleScore n g 3⟩ =
      totalScore n g := by
  simp [Score.total, totalScore, List.range_succ, add_assoc]

end Sys2Proof.Machine
end

section

open Sys2Proof Sys2Proof.Machine Sys2Proof.Reference Sys2Proof.Safety

/-- Settles O50: a square grid is `gridOf` of its cells, and each rule counts those position by
position. -/
theorem scorecardCountsRules : Obligations.ScorecardCountsRules := by
  intro n g _ hrows hcols dark
  have hg : g = gridOf n dark := eq_gridOf hrows hcols
  have rules := scoreOf_gridOf n dark
  rw [← hg] at rules
  rw [rules]
  exact ⟨rfl, rfl, rfl, rfl, total_ruleScores n dark⟩

end

section
/-! SUPPORT. MX_MASK (47_mask_checksum.md R340-R351): the candidates of the matrix, their
scorecards, and the scan for the best one. -/

namespace Sys2Proof.Machine

open Sys2Proof.Reference Sys2Proof.Safety

/-! ## The candidates -/

/-- R341: the machine's masks are the printed predicates. -/
theorem maskHolds_eq_maskPredicate (k : Fin 8) (r c : Nat) :
    maskHolds k r c = maskPredicate k r c := by
  rw [Bool.eq_iff_iff]
  fin_cases k <;> simp [maskHolds, maskPredicate] <;> omega

/-- The colour of cell (r, c) in candidate k (R342). -/
def candidateDark (s : State) (k r c : Nat) : Bool :=
  xor (cellAt s r c).isDark (!(cellAt s r c).func && maskPredicate k r c)

theorem maskedDark_cellAt (s : State) (k : Fin 8) (r c : Nat) :
    maskedDark k r c (cellAt s r c) = candidateDark s k r c := by
  rw [maskedDark, maskHolds_eq_maskPredicate, candidateDark]

/-- The grid that a command reads, cell by cell. -/
theorem readGrid_eq_map_cellAt (s : State) (n : Nat) :
    s.readGrid n = (List.range n).map fun r => (List.range n).map (cellAt s r) := by
  simp only [State.readGrid, Memory.readBlock_eq, List.map_map]
  rfl

/-- R342: candidate k, cell by cell. -/
theorem candidate_readGrid (s : State) (n : Nat) (k : Fin 8) :
    candidate k (s.readGrid n) = gridOf n (candidateDark s k) := by
  simp [candidate, readGrid_eq_map_cellAt, zipIdx_map_range, maskedDark_cellAt, gridOf, lineOf,
    Function.comp_def]

/-! ## The scan -/

/-- What a scan leaves (R351): `best` has the least total of the masks of `ks`, and a lower mask
of `ks` has a greater total. -/
def BestOf (totals : Vector Nat 8) (ks : List (Fin 8)) (best : Fin 8) : Prop :=
  ∀ k ∈ ks, totals[best] ≤ totals[k] ∧ (k < best → totals[best] < totals[k])

/-- R351: the scan of a rising list of masks keeps the best one. -/
theorem bestOf_scan (totals : Vector Nat 8) (ks : List (Fin 8)) (best : Fin 8)
    (rising : (best :: ks).Pairwise (· < ·)) :
    BestOf totals (best :: ks)
      (ks.foldl (fun best k => if totals[k] < totals[best] then k else best) best) := by
  induction ks generalizing best with
  | nil => simp [BestOf]
  | cons k ks ih =>
    rw [List.foldl_cons]
    obtain ⟨hbest, hrest⟩ := List.pairwise_cons.mp rising
    obtain ⟨hk, hks⟩ := List.pairwise_cons.mp hrest
    have lower : best < k := hbest k List.mem_cons_self
    split
    · next better =>
      intro j hj
      have scan := ih k hrest
      obtain rfl | hj := List.mem_cons.mp hj
      · have least := (scan k List.mem_cons_self).1
        exact ⟨by omega, fun _ => by omega⟩
      · exact scan j hj
    · next worse =>
      have scan := ih best (List.pairwise_cons.mpr
        ⟨fun j hj => hbest j (List.mem_cons_of_mem _ hj), hks⟩)
      intro j hj
      obtain rfl | hj := List.mem_cons.mp hj
      · exact scan j List.mem_cons_self
      · obtain rfl | hj := List.mem_cons.mp hj
        · obtain ⟨least, strict⟩ := scan best List.mem_cons_self
          exact ⟨by omega, fun hlt => by have := strict (lower.trans hlt); omega⟩
        · exact scan j (List.mem_cons_of_mem _ hj)

/-- R351: the selected mask is the best of all eight. -/
theorem bestMask_best (totals : Vector Nat 8) (k : Fin 8) :
    totals[bestMask totals] ≤ totals[k] ∧
      (k < bestMask totals → totals[bestMask totals] < totals[k]) := by
  refine bestOf_scan totals _ 0 (by decide) k ?_
  revert k; decide

/-! ## MX_MASK -/

/-- The scorecards of the candidates of the matrix (R345-R348). -/
def matrixScores (s : State) : Vector Score 8 :=
  scoresOf Config.maskLanes (sideOf s.version) (s.readGrid (sideOf s.version))

/-- The mask that MX_MASK selects (R351). -/
def winner (s : State) : Fin 8 := bestMask ((matrixScores s).map Score.total)

theorem matrixScores_getElem (s : State) (k : Fin 8) : (matrixScores s)[k] =
    scoreOf (sideOf s.version) (gridOf (sideOf s.version) (candidateDark s k)) := by
  rw [Fin.getElem_fin, matrixScores, scoresOf_getElem, candidate_readGrid]

theorem matrixScores_total (s : State) (k : Fin 8) :
    (matrixScores s)[k].total = totalScore (sideOf s.version) (candidateDark s k) := by
  rw [matrixScores_getElem, scoreOf_gridOf, total_ruleScores]

theorem matrixScores_row (s : State) (k : Fin 8) (j : Fin 4) : (matrixScores s)[k].row[j] =
    BitVec.ofNat 32 (ruleScore (sideOf s.version) (candidateDark s k) j) := by
  rw [matrixScores_getElem, scoreOf_gridOf]
  fin_cases j <;> rfl

/-- R351: no total is lower than the winner's, and the total of a lower mask is higher. -/
theorem winner_best (s : State) (k : Fin 8) :
    totalScore (sideOf s.version) (candidateDark s (winner s)) ≤
        totalScore (sideOf s.version) (candidateDark s k) ∧
      (k < winner s → totalScore (sideOf s.version) (candidateDark s (winner s)) <
        totalScore (sideOf s.version) (candidateDark s k)) := by
  rw [← matrixScores_total, ← matrixScores_total]
  simpa [winner] using bestMask_best ((matrixScores s).map Score.total) k

/-- The matrix with the winner applied (R340). -/
def maskedGrid (s : State) : Grid := applyMask (winner s) (s.readGrid (sideOf s.version))

/-- R340: a data cell takes its colour in the winner's candidate. -/
theorem maskedGrid_get {s : State} {r c : Nat} (hr : r < sideOf s.version)
    (hc : c < sideOf s.version) : (maskedGrid s).get r c =
      if (cellAt s r c).func then cellAt s r c
      else { state := if candidateDark s (winner s) r c then .dark else .light, func := false } := by
  rw [maskedGrid, applyMask_get (s.readGrid_square _) _ hr hc, ← cellAt_eq_readGrid s hr hc,
    maskCell, maskedDark_cellAt]
  rfl

/-- R340: MX_MASK in its own stage. -/
theorem exec_mxMask {s : State} (hs : s.status.stage = .placed) :
    exec .mxMask s = .next { s with
      mem := Memory.storeRows s.mem 0 (maskedGrid s), maskSel := BitVec.ofNat 3 (winner s)
      penalty := (matrixScores s).map fun p => BitVec.ofNat 32 p.total
      penRule := (matrixScores s).map Score.row
      status := stagedStatus .masked s } := by
  have rule : ruleOf .mxMask s = .ok (maskMatrix Config.maskLanes s) := if_pos hs
  have sel : BitVec.ofNat 3 (winner s) = BitVec.ofFin (winner s) :=
    BitVec.eq_of_toNat_eq (by simp)
  rw [exec_eq_runCommand, runCommand_ok rule, sel]
  simp only [maskMatrix, State.complete, State.setStage, State.writeGrid]
  rfl

end Sys2Proof.Machine
end

section

open Sys2Proof Sys2Proof.Machine Sys2Proof.Reference Sys2Proof.Safety

/-- Settles O51: the candidates are scored as in O50, and the scan keeps the best of those it has
seen. -/
theorem mxMaskAppliesBestMask : Obligations.MxMaskAppliesBestMask := by
  refine ⟨phaseErrors_of_ruleOf rfl rfl fun _ => rfl, fun s hs _ h40 => ?_⟩
  intro n _ _
  refine ⟨_, (maskedGrid s).get, winner s, _, _, exec_mxMask hs,
    fun k => ⟨(Vector.getElem_map _ k.isLt).trans (congrArg _ (matrixScores_total s k)),
      fun j => ?_⟩,
    fun k => (winner_best s k).1, fun k => (winner_best s k).2,
    (applyMask_square (s.readGrid_square _) _).storesGrid ((sideOf_le h40).trans (by decide)) s.mem,
    fun r hr c hc => maskedGrid_get hr hc⟩
  rw [Fin.getElem_fin (i := k), Vector.getElem_map]
  exact matrixScores_row s k j

end

section
/-! SUPPORT. MX_CHECKSUM (47_mask_checksum.md R364-R366): the cells of each bit, which belong to no
other bit, and the grid that the writes leave. -/

namespace Sys2Proof.Machine

open Sys2Proof.Reference Sys2Proof.Safety

/-! ## The cells of a bit -/

/-- (r, c) is one of the two cells of format bit b (R310). -/
def FormatBitCell (n b r c : Nat) : Prop :=
  b < 15 ∧ ((r, c) = formatCell1 b ∨ (r, c) = formatCell2 n b)

/-- (r, c) is one of the two cells of version bit i (R311). -/
def VersionBitCell (n i r c : Nat) : Prop :=
  i < 18 ∧ ((r, c) = versionCell n i ∨ (c, r) = versionCell n i)

theorem eq_formatCell1_iff {b r c : Nat} : (r, c) = formatCell1 b ↔
    (r = 8 ∧ (b = 8 ∧ c = 7 ∨ b = 7 ∧ c = 8 ∨ 9 ≤ b ∧ c = 14 - b)) ∨
      (c = 8 ∧ (b = 6 ∧ r = 7 ∨ b < 6 ∧ r = b)) := by
  unfold formatCell1
  split_ifs <;> rw [Prod.mk.injEq] <;> omega

theorem eq_formatCell2_iff {n b r c : Nat} : (r, c) = formatCell2 n b ↔
    (8 ≤ b ∧ r = n + b - 15 ∧ c = 8) ∨ (b < 8 ∧ r = 8 ∧ c = n - 1 - b) := by
  unfold formatCell2
  split_ifs <;> rw [Prod.mk.injEq] <;> omega

theorem versionBitCell_iff {n i r c : Nat} : VersionBitCell n i r c ↔ i < 18 ∧
    ((r = i / 3 ∧ c = n - 11 + i % 3) ∨ (c = i / 3 ∧ r = n - 11 + i % 3)) := by
  simp only [VersionBitCell, versionCell, Prod.mk.injEq]

/-! ## The writes of a bit -/

/-- The write of a bit into a cell. -/
def bitWrite (value b : Nat) (cell : Nat × Nat) : FSet := ⟨cell.1, cell.2, value.testBit b⟩

theorem eq_bitWrite_iff {w : FSet} {value b : Nat} {cell : Nat × Nat} :
    w = bitWrite value b cell ↔ (w.row, w.col) = cell ∧ w.dark = value.testBit b := by
  obtain ⟨r, c, dark⟩ := w
  simp [bitWrite, Prod.ext_iff, and_assoc]

/-- R365: copy 1 and then copy 2, bit by bit. -/
theorem formatWrites_eq (n fmt : Nat) : formatWrites n fmt =
    formatBitOrder.map (fun b => bitWrite fmt b (formatCell1 b)) ++
      formatBitOrder.map fun b => bitWrite fmt b (formatCell2 n b) := rfl

theorem mem_formatBitOrder {b : Nat} : b ∈ formatBitOrder ↔ b < 15 := by
  simp only [formatBitOrder, List.mem_cons, List.not_mem_nil, or_false]
  omega

/-- R365: each format bit is written into its two cells. -/
theorem mem_formatWrites_iff {n fmt : Nat} {w : FSet} : w ∈ formatWrites n fmt ↔
    ∃ b, FormatBitCell n b w.row w.col ∧ w.dark = fmt.testBit b := by
  simp only [formatWrites_eq, List.mem_append, List.mem_map, mem_formatBitOrder,
    eq_comm (b := w), eq_bitWrite_iff, FormatBitCell]
  grind

/-- R366: each version bit is written into its two cells. -/
theorem mem_versionWrites_iff {n ver : Nat} {w : FSet} : w ∈ versionWrites n ver ↔
    ∃ i, VersionBitCell n i w.row w.col ∧ w.dark = ver.testBit i := by
  have writes : versionWrites n ver = (List.range 18).flatMap fun i =>
    [bitWrite ver i (versionCell n i), bitWrite ver i (versionCell n i).swap] := rfl
  have swapped (p : Nat × Nat) : (w.row, w.col) = p.swap ↔ (w.col, w.row) = p :=
    ⟨fun h => by rw [← p.swap_swap, ← h]; rfl, fun h => by rw [← h]; rfl⟩
  simp only [writes, List.mem_flatMap, List.mem_range, List.mem_cons, List.not_mem_nil, or_false,
    eq_bitWrite_iff, swapped, VersionBitCell]
  grind

/-! ## No cell belongs to two bits -/

/-- A cell belongs to one format bit at most. -/
theorem FormatBitCell.unique {n b b' r c : Nat} (hn : 21 ≤ n) (h : FormatBitCell n b r c)
    (h' : FormatBitCell n b' r c) : b = b' := by
  rw [FormatBitCell, eq_formatCell1_iff, eq_formatCell2_iff] at h h'
  omega

/-- A cell belongs to one version bit at most. -/
theorem VersionBitCell.unique {n i i' r c : Nat} (hn : 45 ≤ n) (h : VersionBitCell n i r c)
    (h' : VersionBitCell n i' r c) : i = i' := by
  rw [versionBitCell_iff] at h h'
  omega

/-- The format cells and the version blocks are disjoint. -/
theorem FormatBitCell.not_versionBitCell {n b i r c : Nat} (hn : 45 ≤ n)
    (h : FormatBitCell n b r c) : ¬ VersionBitCell n i r c := by
  rw [FormatBitCell, eq_formatCell1_iff, eq_formatCell2_iff] at h
  rw [versionBitCell_iff]
  omega

theorem FormatBitCell.inside {n b r c : Nat} (hn : 21 ≤ n) (h : FormatBitCell n b r c) :
    r < n ∧ c < n := by
  rw [FormatBitCell, eq_formatCell1_iff, eq_formatCell2_iff] at h
  omega

theorem VersionBitCell.inside {n i r c : Nat} (hn : 45 ≤ n) (h : VersionBitCell n i r c) :
    r < n ∧ c < n := by
  rw [versionBitCell_iff] at h
  omega

/-! ## The writes of the phase -/

theorem mem_checksumWrites_iff {v fmt ver : Nat} {w : FSet} : w ∈ checksumWrites v fmt ver ↔
    (∃ b, FormatBitCell (sideOf v) b w.row w.col ∧ w.dark = fmt.testBit b) ∨
      7 ≤ v ∧ ∃ i, VersionBitCell (sideOf v) i w.row w.col ∧ w.dark = ver.testBit i := by
  rw [checksumWrites, List.mem_append, mem_formatWrites_iff]
  split <;> simp [mem_versionWrites_iff, *]

/-- No cell is written in two colours. -/
theorem checksumWrites_agree {v fmt ver : Nat} (h1 : 1 ≤ v) {w w' : FSet}
    (hw : w ∈ checksumWrites v fmt ver) (hw' : w' ∈ checksumWrites v fmt ver)
    (hrow : w'.row = w.row) (hcol : w'.col = w.col) : w'.dark = w.dark := by
  have hn : 21 ≤ sideOf v := by unfold sideOf; omega
  have hn7 : 7 ≤ v → 45 ≤ sideOf v := by unfold sideOf; omega
  rw [mem_checksumWrites_iff] at hw hw'
  rw [hrow, hcol] at hw'
  obtain ⟨b, hb, hdark⟩ | ⟨h7, i, hi, hdark⟩ := hw <;>
    obtain ⟨b', hb', hdark'⟩ | ⟨h7', i', hi', hdark'⟩ := hw'
  · rw [hdark', hdark, hb'.unique hn hb]
  · exact absurd hi' (hb.not_versionBitCell (hn7 h7'))
  · exact absurd hi (hb'.not_versionBitCell (hn7 h7))
  · rw [hdark', hdark, hi'.unique (hn7 h7) hi]

/-- Where all writes to a cell agree, the cell is as each of them leaves it. -/
theorem Grid.Square.get_foldl_fset_of_mem {n : Nat} {g : Grid} (h : g.Square n) {ws : List FSet}
    (agree : ∀ w ∈ ws, ∀ w' ∈ ws, w'.row = w.row → w'.col = w.col → w'.dark = w.dark) {w : FSet}
    (hw : w ∈ ws) (hr : w.row < n) (hc : w.col < n) :
    (ws.foldl Grid.fset g).get w.row w.col = w.cell := by
  obtain ⟨w', hw', hrow, hcol, hget⟩ | ⟨hno, -⟩ := h.get_foldl_fset ws hr hc
  · rw [hget, FSet.cell, FSet.cell, agree w hw w' hw' hrow hcol]
  · exact absurd ⟨rfl, rfl⟩ (hno w hw)

/-! ## MX_CHECKSUM -/

/-- The matrix with its format and version information (R364). -/
def checksummedGrid (s : State) : Grid :=
  (checksumWrites s.version (formatValue s.config.ecl s.maskSel) (versionInfo s.version)).foldl
    Grid.fset (s.readGrid (sideOf s.version))

theorem checksummedGrid_get_of_mem {s : State} (h1 : 1 ≤ s.version) {w : FSet}
    (hw : w ∈ checksumWrites s.version (formatValue s.config.ecl s.maskSel) (versionInfo s.version))
    (hin : w.row < sideOf s.version ∧ w.col < sideOf s.version) :
    (checksummedGrid s).get w.row w.col = w.cell :=
  (s.readGrid_square _).get_foldl_fset_of_mem (fun _ hu _ hu' => checksumWrites_agree h1 hu hu') hw
    hin.1 hin.2

section
variable {s : State} {r c : Nat}

/-- R365: both cells of a format bit show it. -/
theorem checksummedGrid_format (h1 : 1 ≤ s.version) {b : Nat}
    (h : FormatBitCell (sideOf s.version) b r c) : (checksummedGrid s).get r c =
      (bitWrite (formatValue s.config.ecl s.maskSel) b (r, c)).cell :=
  checksummedGrid_get_of_mem (w := bitWrite _ b (r, c)) h1
    (mem_checksumWrites_iff.mpr (.inl ⟨b, h, rfl⟩)) (h.inside (by unfold sideOf; omega))

/-- R366: from version 7 on both cells of a version bit show it. -/
theorem checksummedGrid_version (h7 : 7 ≤ s.version) {i : Nat}
    (h : VersionBitCell (sideOf s.version) i r c) : (checksummedGrid s).get r c =
      (bitWrite (versionInfo s.version) i (r, c)).cell :=
  checksummedGrid_get_of_mem (w := bitWrite _ i (r, c)) (by omega)
    (mem_checksumWrites_iff.mpr (.inr ⟨h7, i, h, rfl⟩)) (h.inside (by unfold sideOf; omega))

/-- R364: every other cell stays. -/
theorem checksummedGrid_other (hr : r < sideOf s.version) (hc : c < sideOf s.version)
    (hformat : ∀ b, ¬ FormatBitCell (sideOf s.version) b r c)
    (hversion : 7 ≤ s.version → ∀ i, ¬ VersionBitCell (sideOf s.version) i r c) :
    (checksummedGrid s).get r c = cellAt s r c := by
  rw [cellAt_eq_readGrid s hr hc]
  obtain ⟨w, hw, rfl, rfl, -⟩ | ⟨-, hget⟩ := (s.readGrid_square _).get_foldl_fset
    (checksumWrites s.version (formatValue s.config.ecl s.maskSel) (versionInfo s.version)) hr hc
  · obtain ⟨b, hb, -⟩ | ⟨h7, i, hi, -⟩ := mem_checksumWrites_iff.mp hw
    · exact absurd hb (hformat b)
    · exact absurd hi (hversion h7 i)
  · exact hget

end

/-- R364: MX_CHECKSUM in its own stage. -/
theorem exec_mxChecksum {s : State} (hs : s.status.stage = .masked) :
    exec .mxChecksum s = .next { s with
      mem := Memory.storeRows s.mem 0 (checksummedGrid s)
      formatBits := BitVec.ofNat 15 (formatValue s.config.ecl s.maskSel)
      versionBits := if 7 ≤ s.version then BitVec.ofNat 18 (versionInfo s.version) else 0
      status := stagedStatus .checksummed s } := by
  have rule : ruleOf .mxChecksum s = .ok (writeChecksums s) := if_pos hs
  rw [exec_eq_runCommand, runCommand_ok rule, checksummedGrid, ← formatInfo_eq_formatValue]
  simp only [writeChecksums, State.complete, State.setStage, State.writeGrid]
  rfl

end Sys2Proof.Machine
end

section

open Sys2Proof Sys2Proof.Machine Sys2Proof.Reference Sys2Proof.Safety

/-- Settles O53: no cell belongs to two bits, so each write of the phase stands at its end. -/
theorem mxChecksumWritesBothCopies : Obligations.MxChecksumWritesBothCopies := by
  refine ⟨phaseErrors_of_ruleOf rfl rfl fun _ => rfl, fun s hs h1 h40 => ?_⟩
  intro n fmt fixed
  refine ⟨_, (checksummedGrid s).get, versionInfo s.version, isVersionInfo_versionInfo (by omega),
    exec_mxChecksum hs, ((s.readGrid_square _).foldl_fset _).storesGrid
      ((sideOf_le h40).trans (by decide)) s.mem, fun b hb => ?_, fun h7 i hi => ?_,
    fun r hr c hc hformat hversion => ?_⟩
  · exact ⟨checksummedGrid_format h1 ⟨hb, .inl rfl⟩, checksummedGrid_format h1 ⟨hb, .inr rfl⟩⟩
  · exact ⟨checksummedGrid_version h7 ⟨hi, .inl rfl⟩, checksummedGrid_version h7 ⟨hi, .inr rfl⟩⟩
  · refine checksummedGrid_other hr hc (fun b hb => ?_) fun h7 i hi => ?_
    · exact hb.2.elim (hformat b hb.1).1 (hformat b hb.1).2
    · exact hi.2.elim (hversion h7 i hi.1).1 (hversion h7 i hi.1).2

end

section
/-! SUPPORT. How a command moves STAGE, and where a single-stage command is refused
(48_pipeline_system.md R395). -/

namespace Sys2Proof.Machine

theorem MovesStage.status {g : Stage} {s u : State} (h : MovesStage g s u) :
    u.status = s.status.withStage g := by
  obtain ⟨-, -, hstatus⟩ := h
  exact hstatus

theorem MovesStage.stage {g : Stage} {s u : State} (h : MovesStage g s u) :
    u.status.stage = g := by
  rw [h.status, Status.withStage_stage]

end Sys2Proof.Machine

namespace Sys2Proof.Safety

open Sys2Proof.Machine

/-- R395: a single-stage command is its stage check, and then writes that move STAGE on; its
error leaves STAGE alone and comes before any read. -/
theorem ruleOf_of_singleStage {i : Instr} {before after : Stage}
    (h : singleStage i = some (before, after)) :
    errorToIdle i = false ∧ readsBeforeError i = false ∧
      ∃ f, (∀ s, ruleOf i s = inStage before f s) ∧ ∀ s, MovesStage after s (f s) := by
  cases i
  case encodeData =>
    cases h
    exact ⟨rfl, rfl, _, fun _ => rfl, fun s => (encodeData_moves _ s).drawn⟩
  case interleave =>
    cases h
    exact ⟨rfl, rfl, _, fun _ => rfl, fun s => (interleave_moves s).drawn⟩
  case mxGeometry =>
    cases h
    exact ⟨rfl, rfl, _, fun _ => rfl, buildGeometry_moves⟩
  case mxPlace =>
    cases h
    exact ⟨rfl, rfl, _, fun _ => rfl, fun s => (placeData_moves s).drawn⟩
  case mxMask =>
    cases h
    exact ⟨rfl, rfl, _, fun _ => rfl, maskMatrix_moves _⟩
  case mxChecksum =>
    cases h
    exact ⟨rfl, rfl, _, fun _ => rfl, writeChecksums_moves⟩
  all_goals cases h

theorem stageAfter_of_singleStage {i : Instr} {before after : Stage}
    (h : singleStage i = some (before, after)) (ok : Bool) (g : Stage) :
    stageAfter i ok g = if ok then after else g := by
  simp [stageAfter, h]

/-- R395: where the rule of a command succeeds, STAGE moves as the table says. -/
theorem ruleOf_moves {i : Instr} {s u : State} (h : ruleOf i s = .ok u) :
    MovesStage (stageAfter i true s.status.stage) s u := by
  cases hi : singleStage i with
  | some stages =>
    obtain ⟨-, -, f, rule, moves⟩ := ruleOf_of_singleStage hi
    obtain ⟨-, rfl⟩ := inStage_eq_ok_iff.mp ((rule s).symm.trans h)
    rw [stageAfter_of_singleStage hi, if_pos rfl]
    exact moves s
  | none =>
    cases i
    case nop | gfAdd | gfMul | gfPow | gfExp | bchFormat | bchVersion =>
      cases h
      exact ⟨rfl, rfl, rfl⟩
    case gfDiv | gfLog | rsGenpoly | rsEncode | rsRemainder | rsSyndrome =>
      obtain ⟨_, -, rfl⟩ := exceptMap_eq_ok_iff.mp h
      exact ⟨rfl, rfl, rfl⟩
    case classify =>
      simp only [ruleOf] at h
      split at h
      · cases h
      · cases h
        exact ⟨rfl, rfl, rfl⟩
    case analyze =>
      obtain ⟨_, -, rfl⟩ := exceptMap_eq_ok_iff.mp h
      exact (writeAnalysis_moves _ _ s).drawn
    case encodeQr =>
      obtain ⟨_, -, rfl⟩ := exceptMap_eq_ok_iff.mp h
      exact ((writeAnalysis_moves _ _ s).trans (pipelineTail_moves _ _)).drawn
    all_goals cases hi

/-- R395, R411: where a command fails, STAGE moves as the table says. -/
theorem fail_stage (i : Instr) (s : State) (e : ErrCode) :
    (s.fail i e).status.stage = stageAfter i false s.status.stage := by
  cases i <;> rfl

end Sys2Proof.Safety
end

section

open Sys2Proof Sys2Proof.Machine Sys2Proof.Reference Sys2Proof.Safety

/-- Settles O23: each rule moves STAGE as the table says, and the rule of a single-stage
command is a check of STAGE followed by its writes. -/
theorem stageMovesAsTabulated : Obligations.StageMovesAsTabulated := by
  refine ⟨fun i s t herr ht => ?_, fun i s before after hi => ?_⟩
  · rw [exec_eq_runCommand] at ht
    obtain ⟨u, hu, rfl⟩ | ⟨e, -, rfl⟩ := runCommand_cases ht
    · simp [(ruleOf_moves hu).status, herr]
    · rw [fail_stage, State.fail_status]
      split <;> rfl
  · obtain ⟨hidle, hreads, f, rule, moves⟩ := ruleOf_of_singleStage hi
    refine ⟨phaseErrors_of_ruleOf hidle hreads rule s, fun hs => ⟨(f s).complete, ?_, ?_⟩⟩
    · rw [exec_eq_runCommand, runCommand_ok ((rule s).trans (if_pos hs))]
    · rw [State.complete_status, (moves s).status]
      rfl

/-- Settles O26: the rule of NOP leaves the state as it is. -/
theorem nopOnlyCompletes : Obligations.NopOnlyCompletes := by
  intro s
  have rule : ruleOf .nop s = .ok s := rfl
  rw [exec_eq_runCommand, runCommand_ok rule]
  rfl

end

section
/-! SUPPORT. ENCODE_QR against the single-stage commands (48_pipeline_system.md R391). The
single-stage commands do the phases of ENCODE_QR on states that differ in STATUS and in the
draws, and every byte that a phase reads has been written, so that the draws do not show. -/

namespace Sys2Proof.Machine

open Sys2Proof.Safety

/-- `s` after the completion of a command, the reads so far having drawn `d` times. -/
def State.resumed (d : Nat) (s : State) : State :=
  { s with draws := d, status := s.status.completed }

@[simp] theorem State.resumed_mem (d : Nat) (s : State) : (s.resumed d).mem = s.mem := rfl
@[simp] theorem State.resumed_config (d : Nat) (s : State) :
    (s.resumed d).config = s.config := rfl
@[simp] theorem State.resumed_version (d : Nat) (s : State) :
    (s.resumed d).version = s.version := rfl
@[simp] theorem State.resumed_finalLen (d : Nat) (s : State) :
    (s.resumed d).finalLen = s.finalLen := rfl

/-- Bytes 0..n-1 of a buffer have been written. -/
def State.Written (s : State) (g : Region) (n : Nat) : Prop :=
  ∀ i < n, Memory.get? s.mem (g.base + i) ≠ none

/-- Stored bytes have been written. -/
theorem State.Written.of_store {s : State} {g : Region} {m : Memory} {bytes : List Byte} {n : Nat}
    (hm : s.mem = Memory.store m g.base bytes) (hn : n ≤ bytes.length) : s.Written g n :=
  fun i hi => by
    rw [hm]
    exact get?_store_ne_none (hi.trans_le hn)

/-! ## What a resumed command reads -/

/-- Written bytes read the same at every draw. -/
theorem State.Written.readBuf_resumed {s : State} {g : Region} {n : Nat} (h : s.Written g n)
    (d : Nat) : (s.resumed d).readBuf g n = s.readBuf g n := by
  simp only [State.readBuf, Memory.readBlock_eq]
  refine List.map_congr_left fun i hi => ?_
  obtain ⟨b, hb⟩ := Option.ne_none_iff_exists'.mp (h i (List.mem_range.mp hi))
  rw [Memory.read_eq, Memory.read_eq, State.resumed_mem, hb]
  rfl

/-- Matrix slots read the same at every draw (R301). -/
theorem State.readGrid_resumed (s : State) (d : Nat) {v : Nat} (hv : v ≤ 40) :
    (s.resumed d).readGrid (sideOf v) = s.readGrid (sideOf v) := by
  have hside := sideOf_le hv
  refine List.map_congr_left fun r hr => congrArg (List.map MCell.ofByte) ?_
  rw [Memory.readBlock_eq, Memory.readBlock_eq]
  refine List.map_congr_left fun c hc => ?_
  have hr := List.mem_range.mp hr
  have hc := List.mem_range.mp hc
  have hslot : slotOffset r 0 = 0x10000 + 256 * r := rfl
  rw [Memory.read_matrix _ _ (by omega) (by omega), Memory.read_matrix _ _ (by omega) (by omega)]
  rfl

/-! ## The phases on a resumed state -/

section
variable {s : State} (d : Nat)

theorem encodeData_resumed (p : List Byte) :
    encodeData p (s.resumed d) = (encodeData p s).resumed d := rfl

theorem interleave_resumed (h : s.Written .dcw (dataBytes (blockRom s.version s.config.ecl))) :
    interleave (s.resumed d) = (interleave s).resumed d := by
  simp only [interleave, State.resumed_version, State.resumed_config, h.readBuf_resumed]
  rfl

theorem buildGeometry_resumed : buildGeometry (s.resumed d) = (buildGeometry s).resumed d := by
  simp only [buildGeometry, State.resumed, State.setStage, State.writeGrid, State.version]
  rfl

theorem placeData_resumed (hv : s.version ≤ 40) (h : s.Written .final s.finalLen.toNat) :
    placeData (s.resumed d) = (placeData s).resumed d := by
  simp only [placeData, State.resumed_version, State.resumed_finalLen, h.readBuf_resumed,
    State.readGrid_resumed _ _ hv]
  rfl

theorem maskMatrix_resumed (hv : s.version ≤ 40) (lanes : Nat) :
    maskMatrix lanes (s.resumed d) = (maskMatrix lanes s).resumed d := by
  simp only [maskMatrix, State.resumed_version, State.readGrid_resumed _ _ hv]
  rfl

theorem writeChecksums_resumed (hv : s.version ≤ 40) :
    writeChecksums (s.resumed d) = (writeChecksums s).resumed d := by
  simp only [writeChecksums, State.resumed_version, State.readGrid_resumed _ _ hv]
  rfl

end

/-! ## The commands on a resumed state -/

/-- A single-stage command in its stage, where its writes carry the resumption along. -/
theorem exec_resumed {i : Instr} {g : Stage} {f : State → State} {u t : State} {d d' : Nat}
    (rule : ∀ s, ruleOf i s = inStage g f s) (hs : u.status.stage = g)
    (hf : f (u.resumed d) = t.resumed d') : exec i (u.resumed d) = .next (t.resumed d') := by
  have ok : ruleOf i (u.resumed d) = .ok (t.resumed d') :=
    (rule _).trans (inStage_eq_ok_iff.mpr ⟨hs, hf⟩)
  rw [exec_eq_runCommand, runCommand_ok ok]
  rfl

/-- The same for a command that reads a buffer. -/
theorem exec_resumed_drawn {i : Instr} {g : Stage} {f : State → State} {u t : State} {d : Nat}
    (rule : ∀ s, ruleOf i s = inStage g (fun s => (f s).drawn) s) (hs : u.status.stage = g)
    (hf : f (u.resumed d) = t.resumed d) : exec i (u.resumed d) = .next (t.resumed (d + 1)) :=
  exec_resumed rule hs (congrArg State.drawn hf)

/-- ENCODE_DATA leaves every codeword that INTERLEAVE reads (R260, R280). -/
theorem encodeData_written (p : List Byte) (s : State) : (encodeData p s).Written .dcw
    (dataBytes (blockRom s.version s.config.ecl)) :=
  .of_store rfl (dataCodewords_length s p).ge

/-- INTERLEAVE leaves every codeword that MX_PLACE reads (R280, R320). -/
theorem interleave_written (s : State) :
    (interleave s).Written .final (interleave s).finalLen.toNat :=
  .of_store rfl ((BitVec.toNat_ofNat _ _).trans_le (Nat.mod_le _ _))

/-- MX_GEOMETRY leaves the final codewords alone (R301). -/
theorem buildGeometry_written {s : State} (h : s.Written .final s.finalLen.toNat) :
    (buildGeometry s).Written .final (buildGeometry s).finalLen.toNat := by
  obtain ⟨⟨hlen, -⟩, hmem⟩ := buildGeometry_same (l := .final) (s := s) nofun nofun
  rw [hlen]
  intro i hi
  have within : i < 2 ^ 12 := hi.trans s.finalLen.isLt
  have holds : Location.final.Holds (Region.final.base + i) :=
    ⟨Nat.le_add_right _ _, by simp only [Region.base]; omega⟩
  rw [hmem _ holds]
  exact h i hi

theorem encodeData_version (p : List Byte) (s : State) :
    (encodeData p s).version = s.version := rfl
theorem interleave_version (s : State) : (interleave s).version = s.version := rfl
theorem buildGeometry_version (s : State) : (buildGeometry s).version = s.version := by
  simp [buildGeometry, State.version]
theorem placeData_version (s : State) : (placeData s).version = s.version := rfl
theorem maskMatrix_version (lanes : Nat) (s : State) :
    (maskMatrix lanes s).version = s.version := rfl

/-- R391: on the geometry's matrix and written codewords the last three commands do the last
three phases of ENCODE_QR; one of them reads a buffer. -/
theorem exec_lastStages {u : State} (d : Nat) (hs : u.status.stage = .geometry)
    (hv : u.version ≤ 40) (hf : u.Written .final u.finalLen.toNat) : ∃ t5 t6 : State,
      exec .mxPlace (u.resumed d) = .next t5 ∧ exec .mxMask t5 = .next t6 ∧
      exec .mxChecksum t6 = .next ((writeChecksums (maskMatrix Config.maskLanes
        (placeData u))).resumed (d + 1)) := by
  have hv5 : (placeData u).version ≤ 40 := (placeData_version u).trans_le hv
  have hv6 : (maskMatrix Config.maskLanes (placeData u)).version ≤ 40 :=
    (maskMatrix_version _ _).trans_le hv5
  exact ⟨_, _, exec_resumed_drawn (fun _ => rfl) hs (placeData_resumed d hv hf),
    exec_resumed (fun _ => rfl) (placeData_moves u).stage (maskMatrix_resumed (d + 1) hv5 _),
    exec_resumed (fun _ => rfl) (maskMatrix_moves _ _).stage (writeChecksums_resumed (d + 1) hv6)⟩

/-- R391: on a written payload the six commands after ANALYZE do the phases of ENCODE_QR, one
after the other; three of them read buffers. -/
theorem exec_stages {u : State} (d : Nat) (hs : u.status.stage = .analyzed) (hv : u.version ≤ 40)
    (hp : payloadWritten u) : ∃ t2 t3 t4 t5 t6 : State,
      exec .encodeData (u.resumed d) = .next t2 ∧ exec .interleave t2 = .next t3 ∧
      exec .mxGeometry t3 = .next t4 ∧ exec .mxPlace t4 = .next t5 ∧
      exec .mxMask t5 = .next t6 ∧
      exec .mxChecksum t6 = .next ((pipelineTail u.payload u).resumed (d + 3)) := by
  have hpayload : (u.resumed d).payload = u.payload :=
    State.Written.readBuf_resumed (g := .payload) hp d
  have h2 : exec .encodeData (u.resumed d) = .next ((encodeData u.payload u).resumed (d + 1)) :=
    exec_resumed_drawn (f := fun s => encodeData s.payload s) (fun _ => rfl) hs
      ((congrArg (encodeData · (u.resumed d)) hpayload).trans (encodeData_resumed d _))
  have h3 := exec_resumed_drawn (i := .interleave) (fun _ => rfl)
    (encodeData_moves u.payload u).stage
    (interleave_resumed (d + 1) (encodeData_written u.payload u))
  have h4 := exec_resumed (i := .mxGeometry) (fun _ => rfl)
    (interleave_moves (encodeData u.payload u)).stage (buildGeometry_resumed (d + 2))
  have hv4 : (buildGeometry (interleave (encodeData u.payload u))).version ≤ 40 := by
    rwa [buildGeometry_version, interleave_version, encodeData_version]
  obtain ⟨t5, t6, h5, h6, h7⟩ := exec_lastStages (d + 2) (buildGeometry_moves _).stage hv4
    (buildGeometry_written (interleave_written _))
  exact ⟨_, _, _, t5, t6, h2, h3, h4, h5, h6, h7⟩

theorem pipelineTail_draws (p : List Byte) (s : State) : (pipelineTail p s).draws = s.draws := by
  simp [pipelineTail, writeChecksums, maskMatrix, placeData, buildGeometry, interleave, encodeData]

end Sys2Proof.Machine
end

section

open Sys2Proof Sys2Proof.Machine Sys2Proof.Reference Sys2Proof.Safety

/-- Settles O54: the single-stage commands do the phases of ENCODE_QR on states that differ
from its own in STATUS and the draws, which no phase shows. -/
theorem encodeQrEqualsSevenStages : Obligations.EncodeQrEqualsSevenStages := by
  refine ⟨analyzerErrors_of_ruleOf rfl fun _ => rfl, fun s v hlen hw hv => ?_⟩
  have hsel := selectVersion_of_versionSelected hlen hv
  let u1 := writeAnalysis (classify s.payload) v s
  let u7 := pipelineTail s.payload u1
  obtain ⟨-, h40⟩ := (analyzed_writeAnalysis hsel).version
  obtain ⟨t2, t3, t4, t5, t6, h2, h3, h4, h5, h6, h7⟩ :=
    exec_stages (u := u1) (s.draws + 1) rfl h40 hw
  refine ⟨u1.resumed (s.draws + 1), t2, t3, t4, t5, t6, u7.resumed (s.draws + 1 + 3),
    exec_analyze_of_selected hsel, h2, h3, h4, h5, h6, h7, ?_, ?_⟩
  · exact congrArg Status.completed (pipelineTail_moves s.payload u1).status
  · have rule : ruleOf .encodeQr s = .ok u7.drawn := exceptMap_eq_ok_iff.mpr ⟨_, hsel, rfl⟩
    have hdraws : u7.draws = s.draws := pipelineTail_draws _ _
    rw [exec_eq_runCommand, runCommand_ok rule, State.drawn, hdraws]
    rfl

end

section
/-! SUPPORT. Completion and errors (60_exceptions.md R410-R413): that every command and every
step answers a next state, the errors that a rule can raise, and what the latency and the
host's accesses leave to a command in progress (70_reset_and_hazards.md R460, R465). -/

namespace Sys2Proof.Machine

open Sys2Proof.Safety

/-! ## Completion -/

/-- R410: every command answers a next state. -/
theorem exec_total (i : Instr) (s : State) : ∃ t, exec i s = .next t := by
  rw [exec_eq_runCommand]
  exact runCommand_next ..

/-- A word that is no command completes as an error if it is ever in progress (log entry
15). -/
theorem step_reject {s : State} (turn : s.coreTurn = true) (invalid : decode s.cmd = none) :
    step s = .next (s.rejectCommand s.cmd) := by
  simp only [step, turn, if_true, State.runIssued, invalid]

/-- No step stops the machine. -/
theorem step_total (s : State) : ∃ t, step s = .next t := by
  cases turn : s.coreTurn with
  | false => exact ⟨_, step_host turn⟩
  | true =>
    cases word : decode s.cmd with
    | none => exact ⟨_, step_reject turn word⟩
    | some i =>
      rw [step_exec turn word]
      exact exec_total i s

/-- BUSY falls and DONE rises at every completion, with or without an error (R410). -/
theorem exec_done {i : Instr} {s t : State} (h : exec i s = .next t) :
    t.status.busy = false ∧ t.status.done = true := by
  obtain ⟨-, -, ⟨g, hg⟩ | ⟨e, g, -, hg⟩⟩ := exec_control h <;> rw [hg] <;> exact ⟨rfl, rfl⟩

/-! ## Errors -/

/-- The phases of the pipeline leave CTRL.IE and ERRINFO alone (R391). -/
theorem pipelineTail_ie_errInfo (p : List Byte) (s : State) :
    (pipelineTail p s).ctrlIE = s.ctrlIE ∧ (pipelineTail p s).errInfo = s.errInfo := by
  simp [pipelineTail, writeChecksums, maskMatrix, placeData, buildGeometry, interleave, encodeData]

/-- A rule that succeeds leaves CTRL.IE and ERRINFO alone (R36, R411). -/
theorem RuleEffect.ie_errInfo {s u : State} (h : RuleEffect s u) :
    u.ctrlIE = s.ctrlIE ∧ u.errInfo = s.errInfo := by
  cases h with
  | keep | result | rsBuffer | classify | analyze => exact ⟨rfl, rfl⟩
  | encodeData => simp [Machine.encodeData]
  | interleave => simp [Machine.interleave]
  | geometry => simp [buildGeometry]
  | place => simp [placeData]
  | mask => simp [maskMatrix]
  | checksum => simp [writeChecksums]
  | encodeQr v =>
    rw [State.drawn_ctrlIE, State.drawn_errInfo]
    exact pipelineTail_ie_errInfo s.payload (writeAnalysis (Machine.classify s.payload) v s)

/-- Commands leave CTRL.IE alone, whether they succeed or not (R143). -/
theorem exec_ctrlIE {i : Instr} {s t : State} (h : exec i s = .next t) :
    t.ctrlIE = s.ctrlIE := by
  obtain ⟨u, hu, rfl⟩ | ⟨e, -, rfl⟩ := exec_cases h
  · obtain ⟨hie, -⟩ := hu.ie_errInfo
    exact hie
  · rfl

theorem gfDiv_error {a b : Byte} {e : ErrCode} (h : gfDiv a b = .error e) :
    e = .divideByZero := by
  unfold gfDiv at h
  split_ifs at h
  cases h
  rfl

theorem gfLog_error {a : Byte} {e : ErrCode} (h : gfLog a = .error e) : e = .domain := by
  unfold gfLog at h
  split_ifs at h
  cases h
  rfl

/-- The errors of the checks of R200. -/
theorem rsCheck_error {readsK : Bool} {s : State} {e : ErrCode}
    (h : rsCheck readsK s = .error e) : e = .divideByZero ∨ e = .badLength := by
  unfold rsCheck at h
  split_ifs at h <;> cases h
  · exact .inl rfl
  all_goals exact .inr rfl

/-- The rule of a command raises no error but those that R413 gives the command. -/
theorem ruleOf_error_listed {i : Instr} {s : State} {e : ErrCode} (h : ruleOf i s = .error e) :
    e ∈ possibleErrors i := by
  cases i
  case nop | gfAdd | gfMul | gfPow | gfExp | bchFormat | bchVersion => cases h
  case gfDiv =>
    rw [gfDiv_error (exceptMap_eq_error_iff.mp h)]
    exact List.mem_singleton_self _
  case gfLog =>
    rw [gfLog_error (exceptMap_eq_error_iff.mp h)]
    exact List.mem_singleton_self _
  case rsGenpoly | rsEncode | rsRemainder | rsSyndrome =>
    obtain rfl | rfl := rsCheck_error (exceptMap_eq_error_iff.mp h)
    · exact List.mem_cons_self
    · exact List.mem_cons_of_mem _ (List.mem_singleton_self _)
  case classify =>
    simp only [ruleOf] at h
    split_ifs at h
    cases h
    exact List.mem_singleton_self _
  case analyze | encodeQr =>
    obtain ⟨-, rfl⟩ | ⟨-, rfl, -⟩ := selectVersion_error (exceptMap_eq_error_iff.mp h)
    · exact List.mem_cons_self
    · exact List.mem_cons_of_mem _ (List.mem_singleton_self _)
  case encodeData | interleave | mxGeometry | mxPlace | mxMask | mxChecksum =>
    simp only [ruleOf, inStage_eq_error_iff] at h
    obtain ⟨-, rfl⟩ := h
    exact List.mem_singleton_self _

/-- R395, R411: the state after an error of each command. -/
theorem fail_eq_errorState_of_command (i : Instr) (e : ErrCode) (s : State) :
    s.fail i e =
      errorState i e (if i = .analyze ∨ i = .encodeQr then .idle else s.status.stage) s := by
  cases i
  case analyze | encodeQr => exact fail_eq_errorState_idle rfl e s
  all_goals exact fail_eq_errorState rfl rfl e s

/-! ## The latency -/

/-- A run takes its first step, and goes on from there. -/
theorem run_succ_of_next {M : Host.Core} {s t : M.State} (h : M.step s = .next t) (k : Nat) :
    M.run (k + 1) s = M.run k t := by
  rw [Host.Core.run, h]

/-- Without events the sequencer's cycle comes when the latency is over (R410). -/
theorem State.coreTurn_of_due {s : State} (high : s.rstN = true) (busy : s.status.busy = true)
    (due : s.wait = 0) (noFall : ∀ rest, s.inbox ≠ .rstN false :: rest) : s.coreTurn = true := by
  refine s.coreTurn_iff.mpr ⟨high, busy, due, ?_⟩
  rw [Bool.eq_false_iff, ne_eq, State.resetFalls_iff]
  exact fun ⟨rest, h⟩ => noFall rest h

/-- R465: the cycles of the latency pass one by one, and then the command runs. -/
theorem run_of_waiting {s : State} {i : Instr} {n : Nat} (wait : s.wait = n)
    (high : s.rstN = true) (busy : s.status.busy = true) (word : decode s.cmd = some i)
    (silent : s.inbox = []) :
    Host.Core.run Sys2Proof.core (n + 1) s = exec i { s with wait := 0 } := by
  induction n generalizing s with
  | zero =>
    have turn := State.coreTurn_of_due high busy wait (by simp [silent])
    have issued : ({ s with wait := 0 } : State) = s := by rw [← wait]
    obtain ⟨t, ht⟩ := exec_total i s
    rw [issued, ht]
    exact run_succ_of_next ((step_exec turn word).trans ht) 0
  | succ n ih =>
    have turn := State.coreTurn_of_waiting (s := s) (by omega)
    have tick : step s = .next { s with wait := n } := by
      rw [step_host turn, State.hostTurn_nil silent, State.tick, busy, wait]
      rfl
    exact (run_succ_of_next tick (n + 1)).trans
      (ih (s := { s with wait := n }) rfl high busy word silent)

/-! ## Writes in the host's cycle -/

/-- A write in the host's cycle, busy or not. -/
theorem step_writeTurn {s : State} {a : Offset} {size : AccessSize} {w : Word}
    {rest : List HostEvent} (turn : s.coreTurn = false)
    (hin : s.inbox = .access (.write a size w) :: rest) :
    step s = .next (({ s.tick with inbox := rest } : State).perform (.write a size w)) := by
  rw [step_host turn, State.hostTurn_cons hin]
  rfl

/-- R460: while BUSY = 1 nothing but a word write to CTRL is accepted. -/
theorem State.writeAccepted_busy {s : State} {a : Nat} {size : AccessSize} (w : Word)
    (busy : s.status.busy = true) (h : a ≠ 0x004 ∨ size ≠ .four) :
    s.writeAccepted a size w = none := by
  by_contra hne
  obtain ⟨t, ht⟩ := Option.ne_none_iff_exists'.mp hne
  obtain ⟨-, hform, hctrl, -⟩ := State.writeAccepted_cases ht
  obtain ⟨-, word⟩ := (badForm_eq_false_iff a size).mp hform
  have ha := hctrl busy
  exact h.elim (· ha) (· (word (by omega)))

/-- R110, R460: a word write to CTRL is accepted out of reset, busy or not. -/
theorem State.writeAccepted_ctrl {s : State} (w : Word) (high : s.rstN = true) :
    s.writeAccepted 0x004 .four w = some (s.writeCtrl w) := by
  have hform : badForm 0x004 .four = false := rfl
  simp only [State.writeAccepted, high, hform]
  simp [State.writeLocation, (regionOf_registers 4).mpr (by decide), State.writeReg]

end Sys2Proof.Machine
end

section

open Sys2Proof Sys2Proof.Machine Sys2Proof.Safety

/-- Settles O4: in the sequencer's cycle the decoded command runs, and `withFetchWord` leaves
such a cycle. -/
theorem stepRunsTheDecodedCommand : Obligations.StepRunsTheDecodedCommand := by
  refine ⟨fun s i high busy wait noFall word => ?_, fun s i => ?_⟩
  · exact step_exec (State.coreTurn_of_due high busy wait noFall) word
  · have word : tableWord 32 (encode i).toNat = encode i := by
      rw [tableWord, Nat.mod_eq_of_lt (encode i).isLt, BitVec.ofNat_toNat, BitVec.setWidth_eq]
    rw [State.withFetchWord, word]
    refine step_exec ?_ (decode_encode i)
    exact (State.coreTurn_iff _).mpr ⟨rfl, rfl, rfl, s.resetFalls_withoutReset⟩

/-- Settles O6: every rule ends in a completion or in an error, and both clear BUSY and set
DONE. -/
theorem everyCommandCompletes : Obligations.EveryCommandCompletes := by
  refine ⟨fun i s => ?_, step_total⟩
  obtain ⟨t, ht⟩ := exec_total i s
  exact ⟨t, ht, exec_done ht⟩

/-- Settles O7: by induction on the latency, whose cycles change nothing but `wait`. -/
theorem issuedCommandRunsAfterItsLatency : Obligations.IssuedCommandRunsAfterItsLatency :=
  fun _ _ high busy word silent => run_of_waiting rfl high busy word silent

/-- Settles O9: the write of a word that is no command raises ILLEGAL_OPCODE at once. -/
theorem illegalWordCompletesAtOnce : Obligations.IllegalWordCompletesAtOnce := by
  intro s w rest host invalid
  have rejects : ({ s with inbox := rest } : State).writeCmd w =
      ({ s with inbox := rest } : State).rejectCommand w := by
    simp only [State.writeCmd, invalid]
  refine ⟨.okay, ?_⟩
  rw [step_writeReg host (by decide) (congrArg some rejects)]
  rfl

/-- Settles O10: a busy core accepts no other write, and a refused one is only answered. -/
theorem busyRefusesWrites : Obligations.BusyRefusesWrites := by
  rintro s a size w rest ⟨-, busy, wait, hin⟩ hnot
  have refused : ({ s.tick with inbox := rest } : State).writeAccepted a.toNat size w = none :=
    State.writeAccepted_busy w busy (hnot.imp_left fun ha h => ha (BitVec.eq_of_toNat_eq h))
  rw [step_writeTurn (State.coreTurn_of_waiting wait) hin, State.perform_write_refused refused,
    State.tick, busy]
  rfl

/-- Settles O17: each write stores the fields of its register, and those to CONFIG and
PAYLOAD_LEN move STAGE as well. -/
theorem configurationWritesInvalidateStage : Obligations.ConfigurationWritesInvalidateStage := by
  intro s a w rest host
  refine ⟨?_, ?_, ?_, ?_, ?_⟩ <;> rintro rfl <;> exact step_writeReg host (by decide) rfl

/-- Settles O21: the output is a function of rst_n, IE and DONE, which every completion sets
and an issue or a write of 1 clears. -/
theorem interruptFollowsCompletion : Obligations.InterruptFollowsCompletion := by
  refine ⟨fun s => ?_, fun i s t ht => ?_, fun s t w i rest valid host ht => ?_,
    fun s t w rest one host ht => ?_⟩
  · simp [State.irq, and_assoc]
  · obtain ⟨hrst, -, -⟩ := exec_control ht
    obtain ⟨-, hdone⟩ := exec_done ht
    rw [State.irq, hrst, exec_ctrlIE ht, hdone, Bool.and_true]
  · cases (commandWriteIssuesCommand s w i rest host valid).symm.trans ht
    exact Bool.and_false _
  · obtain ⟨-, acknowledges, -⟩ := writesRespectAccessRights
    cases (acknowledges s w rest host).symm.trans ht
    simp [State.irq, one]

/-- Settles O22: a rule that succeeds moves nothing of STATUS but STAGE, and one that raises
a listed error leaves nothing of itself behind. -/
theorem errorsArePreciseAndListed : Obligations.ErrorsArePreciseAndListed := by
  intro i s
  cases hr : ruleOf i s with
  | ok u =>
    have hstatus := (ruleOf_moves hr).status
    obtain ⟨-, herrInfo⟩ := (ruleOf_ok hr).ie_errInfo
    have runs : exec i s = .next u.complete := (exec_eq_runCommand i s).trans (runCommand_ok hr)
    exact .inl ⟨u.complete, runs, rfl, rfl, (congrArg Status.err hstatus :),
      (congrArg Status.errSticky hstatus :), (congrArg Status.errCode hstatus :), herrInfo⟩
  | error e =>
    refine .inr ⟨e, ruleOf_error_listed hr, ?_⟩
    rw [exec_of_ruleOf_error hr, fail_eq_errorState_of_command]

end

section
/-! SUPPORT. Reset (70_reset_and_hazards.md R450-R452): the state that a soft and a hardware
reset leave, what a low rst_n does to accesses, and what the reset state shows the host. -/

namespace Sys2Proof.Machine

open Sys2Proof.Safety

/-! ## Soft reset -/

/-- R452: the registers at their reset values, the bytes and the port as they were. -/
theorem State.softReset_eq {s : State} (high : s.rstN = true) (ie : Bool) : s.softReset ie =
    { State.reset with
      ctrlIE := ie, mem := s.mem, rstN := true, latencies := s.latencies
      inbox := s.inbox, outbox := s.outbox, draws := s.draws } := by
  rw [State.softReset, State.resetRegisters, high]

/-- Without a matrix every slot reads 0 (R53). -/
theorem State.hostByte_of_noMatrix {s : State} {a : Nat} (h : s.mxn = 0) (hlo : 0x10000 ≤ a)
    (hhi : a < 0x20000) : s.hostByte a = 0 := by
  have hin : Region.matrix.holds a = true := by
    rw [Region.holds_iff]
    simp only [Region.base, Region.size, Config.matrixStride]
    omega
  simp [State.hostByte, State.slotShown, hin, h]

/-! ## A low rst_n -/

/-- R451: a falling rst_n comes before the completion of a command. -/
theorem State.coreTurn_of_fall {s : State} {rest : List HostEvent}
    (hin : s.inbox = .rstN false :: rest) : s.coreTurn = false := by
  rw [State.coreTurn, s.resetFalls_iff.mpr ⟨rest, hin⟩]
  exact Bool.and_false _

theorem State.coreTurn_of_low {s : State} (low : s.rstN = false) : s.coreTurn = false := by
  simp [State.coreTurn, low]

/-- R451: every read is answered ERROR. -/
theorem State.readAnswer_low {s : State} (low : s.rstN = false) (a : Nat) (size : AccessSize) :
    ∃ rdata, s.readAnswer a size = .read .error rdata := by
  simp only [State.readAnswer, low, if_true]
  split
  · exact ⟨_, rfl⟩
  · split <;> exact ⟨_, rfl⟩

/-- R451: no write is accepted. -/
theorem State.writeAccepted_low {s : State} (low : s.rstN = false) (a : Nat) (size : AccessSize)
    (w : Word) : s.writeAccepted a size w = none := by
  simp [State.writeAccepted, low]

/-! ## The reset state -/

theorem Memory.get?_nil (a : Nat) : Memory.get? [] a = Memory.unlisted a := rfl

/-- The offsets with a content of their own are the matrix slots and GEN bytes 33..63 (R113,
R301). -/
theorem Memory.unlisted_eq (a : Nat) : Memory.unlisted a =
    if 0x10000 ≤ a ∧ a < 0x20000 then some 0
    else if 0x01221 ≤ a ∧ a < 0x01240 then some 0 else none := by
  simp only [Memory.unlisted, Region.holds_iff, Bool.and_eq_true, decide_eq_true_eq]
  rfl

/-- R450: after a reset every register but ID reads 0. -/
theorem readReg_reset {a : Nat} {v : Word} (h : State.reset.readReg a = some v) :
    v = if a = 0 then 0x51524337 else 0 := by
  unfold State.readReg at h
  split at h
  case h_27 =>
    rw [if_neg ‹_›]
    split_ifs at h
    · obtain ⟨hk, rfl⟩ := Vector.getElem?_eq_some_iff.mp h
      exact Vector.getElem_replicate hk
    · obtain ⟨row, hrow, hv⟩ := Option.bind_eq_some_iff.mp h
      obtain ⟨hk, rfl⟩ := Vector.getElem?_eq_some_iff.mp hrow
      obtain ⟨hj, rfl⟩ := Vector.getElem?_eq_some_iff.mp hv
      simp [State.reset]
  all_goals
    cases h
    rfl

end Sys2Proof.Machine

namespace Sys2Proof.Safety

open Sys2Proof.Machine

/-- R451: commands run only while rst_n is high, so a low rst_n holds the reset state in the
host's cycle, change by change. -/
theorem ResetInv.step {s t : State} (h : ResetInv s) (ht : Machine.step s = .next t) :
    ResetInv t := by
  obtain ⟨turn, i, -, hi⟩ | ⟨turn, -, rfl⟩ | ⟨-, rfl⟩ := step_cases ht
  · obtain ⟨hrst, -⟩ := exec_control hi
    exact .of_high (hrst.trans ((State.coreTurn_iff s).mp turn).1)
  · exact .of_high ((State.coreTurn_iff s).mp turn).1
  · exact ResetInv.hostKeeps.hostTurn h

/-- R450: the reset state is consistent, and holds nothing. -/
theorem coreInv_reset : CoreInv State.reset where
  status := ⟨nofun, nofun, nofun, by decide, fun _ => rfl, nofun⟩
  reset := .of_high rfl
  memory := ⟨Memory.wf_nil, nofun⟩
  matrix := ⟨.inl rfl, nofun, nofun⟩
  cache := .of_empty rfl
  stage := .of_idle rfl (.reset rfl rfl)

end Sys2Proof.Safety
end

section

open Sys2Proof Sys2Proof.Machine Sys2Proof.Safety

/-- Settles O18: a word write to CTRL is accepted, busy or not, and does what its bit 1
says. -/
theorem softResetClearsRegistersKeepsBuffers :
    Obligations.SoftResetClearsRegistersKeepsBuffers := by
  intro s w rest high running hin
  have turn : s.coreTurn = false := by
    rw [Bool.eq_false_iff, ne_eq, State.coreTurn_iff]
    exact fun ⟨_, busy, wait, _⟩ => running ⟨busy, wait⟩
  let u : State := { s.tick with inbox := rest }
  have highU : u.rstN = true := high
  have written : step s = .next ((u.writeCtrl w).answer (.write .okay)) := by
    rw [step_writeTurn turn hin]
    exact congrArg _ (State.perform_write_accepted (s := u) (a := 0x004)
      (State.writeAccepted_ctrl w highU))
  refine ⟨fun one => ?_, fun zero => ?_⟩
  · rw [State.writeCtrl, if_pos one, State.softReset_eq highU] at written
    exact ⟨_, written, Bool.and_false _, fun _ _ => rfl,
      fun _ hlo hhi => State.hostByte_of_noMatrix rfl hlo hhi, rfl⟩
  · rw [written, State.writeCtrl_of_noReset _ zero]
    rfl

/-- Settles O19: the fall of rst_n is the event of the host's cycle; while it is low no
access has an effect; and its rise adds nothing to the reset state that was held. -/
theorem hardwareResetPutsResetState : Obligations.HardwareResetPutsResetState := by
  intro s rest
  refine ⟨fun hin => ?fall, fun low => ?irq, fun a size low idle hin => ?read,
    fun a size w low idle hin => ?write, fun held low hin => ?rise⟩
  case fall =>
    rw [step_host (State.coreTurn_of_fall hin), State.hostTurn_cons hin]
    exact ⟨_, rfl, rfl, rfl⟩
  case irq => simp [State.irq, low]
  case read =>
    obtain ⟨rdata, answer⟩ := State.readAnswer_low low a.toNat size
    exact ⟨rdata, by rw [step_read idle hin, answer]⟩
  case write =>
    have refused : ({ s with inbox := rest } : State).writeAccepted a.toNat size w = none :=
      State.writeAccepted_low (s := { s with inbox := rest }) low ..
    rw [step_write idle hin, State.perform_write_refused refused]
    rfl
  case rise =>
    rw [step_host (State.coreTurn_of_low low), State.hostTurn_cons hin, held low]
    rfl

/-- Settles O20: the reset state's registers, memory and side register one by one. -/
theorem resetStateAsTabulated : Obligations.ResetStateAsTabulated := by
  have empty : State.reset.mem = [] := rfl
  refine ⟨fun _ _ => readReg_reset, fun a ha => ?_, fun a hlo hhi => ?_,
    fun a hlo hhi => State.hostByte_of_noMatrix rfl hlo hhi, rfl, rfl, rfl, rfl⟩
  · rw [empty, Memory.get?_nil, Memory.unlisted_eq, if_neg (by omega), if_neg (by omega)]
  · rw [State.hostByte_buffer _ (by omega), Memory.read_eq, empty, Memory.get?_nil,
      Memory.unlisted_eq, if_neg (by omega), if_pos ⟨hlo, hhi⟩]
    rfl

/-- Settles O55: memory and cache are empty, and stage IDLE certifies the penalties only. -/
theorem resetSatisfiesCoreInvariant : Obligations.ResetSatisfiesCoreInvariant := coreInv_reset

/-- Settles O59: a command runs only while rst_n is high, and every change of the host's
cycle keeps a low rst_n's reset state. -/
theorem stepKeepsResetState : Obligations.StepKeepsResetState := fun _ _ h ht => h.step ht

end
